-- ==== Sys2Proof/Word.lean ====
section
/-! DEFINITION. Word.lean: the bit vectors the CORE computes with, at the default parameters of 00_scope.md
rule R6 (`PKT_SIZE = 16`, `QW = 4`). Every quantity is unsigned (R9). -/

namespace Sys2Proof

/-- A packet buffer, `W = PKT_SIZE * 8 = 128` bits (R7, R60); bit 127 is its top (R62). -/
abbrev Packet := BitVec 128

/-- A symbol, `QW = 4` bits, the unit that crosses the bus (R81); bit `j` is data line `j` (R66). -/
abbrev Symbol := BitVec 4

/-- A byte of a wire format: a header byte (R86) or a trailer byte (R82). -/
abbrev WireByte := BitVec 8

/-- A peripheral id field, `ID_W = 4` bits (R7, R61). -/
abbrev PeriphId := BitVec 4

/-- The inbound flags field, `FLAGS_W = 4` bits (R7, R94). -/
abbrev FlagsField := BitVec 4

/-- A byteCount, `BC_W = 5` bits, so that 16 is representable (R8). -/
abbrev ByteCount := BitVec 5

/-- A symbol counter, `CNT_W = 6` bits, which wraps modulo 64 (R8). -/
abbrev SymCount := BitVec 6

/-- The control vector `c = {cs_prev, cs_s, clk_prev, clk_s}`, `cs_prev` most significant (R96). -/
abbrev ControlVec := BitVec 4

end Sys2Proof
end

