-- ==== Sys2Proof/Syntax.lean ====
section
/-! DEFINITION. Syntax.lean: the operations of the CORE, one constructor per row of spec/opcode_table.json. What
stands for an opcode is said by 30_encoding.md rule R96. -/

namespace Sys2Proof

/-- The operations: twelve Dispatcher actions, the codecs' micro-operations, the conditioner's step, the header bytes
and the inbound trailer byte. -/
inductive Instr where
  /-- START, code 0 (R150). -/
  | start
  /-- IDLE, code 1 (R151 to R154). -/
  | idle
  /-- OK_TO_SEND, code 2 (R155). -/
  | okToSend
  /-- WAIT_STM_DATA, code 3 (R156, R157). -/
  | waitStmData
  /-- RECEIVING, code 4 (R158, R159). -/
  | receiving
  /-- RECEIVE_HANDSHAKE, code 5 (R160, R161). -/
  | receiveHandshake
  /-- WAIT_FOR_TXN, code 6 (R162). -/
  | waitForTxn
  /-- SEND_EVENT, code 7 (R163). -/
  | sendEvent
  /-- SENDING_EVENT, code 8 (R164). -/
  | sendingEvent
  /-- PERIPH_EVENT, code 9 (R165). -/
  | periphEvent
  /-- SEND_DATA, code 10 (R166). -/
  | sendData
  /-- SENDING, code 11 (R167). -/
  | sending
  /-- RX_CLEAR, pattern `-1--` (R121). -/
  | rxClear
  /-- RX_SHIFT, pattern `-001` (R122). -/
  | rxShift
  /-- RX_HOLD, any other pattern (R123). -/
  | rxHold
  /-- TX_CLEAR, pattern `-1--` (R136). -/
  | txClear
  /-- TX_LOAD, pattern `10--` (R137). -/
  | txLoad
  /-- TX_SHIFT, pattern `0010` (R138). -/
  | txShift
  /-- TX_HOLD, any other pattern (R139). -/
  | txHold
  /-- COND, performed in every tick (R111, R112). -/
  | cond
  /-- HDR_OK_TO_SEND, header byte `0xF0` (R87). -/
  | hdrOkToSend
  /-- HDR_NOT_READY, header byte `0xFF` (R88). -/
  | hdrNotReady
  /-- HDR_EVENT, header byte `bbbbiiii`: the low nibble of the byteCount and the source id (R89). -/
  | hdrEvent (bc : BitVec 4) (id : PeriphId)
  /-- INB_TRAILER, trailer byte `iiiiffff`: destination id and flags (R83). -/
  | inbTrailer (id : PeriphId) (flags : FlagsField)
deriving DecidableEq, Repr

/-- The component a row belongs to (the table's "component"): it says which decode reads a word (R96, R102). -/
inductive Component where
  | dispatcher
  | rxCodec
  | txCodec
  | inputConditioner
  | headerByte
  | inboundTrailer
deriving DecidableEq, Repr

/-- The component of each operation, as the table lists it. -/
def Instr.component : Instr → Component
  | .start | .idle | .okToSend | .waitStmData | .receiving | .receiveHandshake => .dispatcher
  | .waitForTxn | .sendEvent | .sendingEvent | .periphEvent | .sendData | .sending => .dispatcher
  | .rxClear | .rxShift | .rxHold => .rxCodec
  | .txClear | .txLoad | .txShift | .txHold => .txCodec
  | .cond => .inputConditioner
  | .hdrOkToSend | .hdrNotReady | .hdrEvent _ _ => .headerByte
  | .inbTrailer _ _ => .inboundTrailer

end Sys2Proof
end

