-- ==== Sys2Proof/WellFormed.lean ====
section
/-! DEFINITION. WellFormed.lean: which operations have an encoding of their own. Only an event header can lack one: the
rows of format HDR8 are tried in order, and its byte must be neither of the two reserved values (30_encoding.md rules
R87, R88, R93, R103). -/

namespace Sys2Proof

/-- Check 1: the event header's byte is not the reserved value `OK_TO_SEND = 0xF0` (R87, R93). -/
def Instr.notOkToSendByte : Instr → Bool
  | .hdrEvent bc id => !(bc == 0xF && id == 0x0)
  | _ => true

/-- Check 2: the event header's byte is not the reserved value `NOT_READY = 0xFF` (R88, R92). -/
def Instr.notNotReadyByte : Instr → Bool
  | .hdrEvent bc id => !(bc == 0xF && id == 0xF)
  | _ => true

/-- An operation is well formed when its word decodes to it and to no earlier row (R103). -/
def Instr.wellFormed (i : Instr) : Bool := i.notOkToSendByte && i.notNotReadyByte

end Sys2Proof
end

