-- ==== Sys2Proof/Decode.lean ====
section
/-! DEFINITION. Decode.lean: operation decode (30_encoding.md rules R96 to R99, R102, R103) and, after it, the encoder.
A word is a list of bytes: one byte for every format but NONE, which has none. The formats overlap, so a decode is told
the component whose word it reads (R96). -/

namespace Sys2Proof

/-- Why a word is rejected. -/
inductive DecodeError where
  /-- The word has not the number of bytes its format has. -/
  | wrongLength (component : Component) (bytes : Nat)
  /-- A 4-bit code or control vector has a bit set above bit 3. -/
  | aboveFourBits (component : Component) (byte : WireByte)
  /-- An `fsm` code of 12 to 15, which no state has (R99, 93_implementation_defined.md U16). -/
  | unusedFsmCode (code : BitVec 4)
deriving DecidableEq, Repr

/-- The action that an `fsm` code selects (R30, R99); `none` for the codes 12 to 15. -/
def fsmOp (code : BitVec 4) : Option Instr :=
  match code.toNat with
  | 0 => some .start
  | 1 => some .idle
  | 2 => some .okToSend
  | 3 => some .waitStmData
  | 4 => some .receiving
  | 5 => some .receiveHandshake
  | 6 => some .waitForTxn
  | 7 => some .sendEvent
  | 8 => some .sendingEvent
  | 9 => some .periphEvent
  | 10 => some .sendData
  | 11 => some .sending
  | _ => none

/-- A control vector fits a CTL4 row when its masked bits equal the row's. -/
def fits (c mask pattern : ControlVec) : Bool := c &&& mask == pattern

/-- Rx Codec decode over `c = {cs_prev, cs_s, clk_prev, clk_s}`, first match wins (R97). -/
def rxOp (c : ControlVec) : Instr :=
  if fits c 0b0100 0b0100 then .rxClear
  else if fits c 0b0111 0b0001 then .rxShift
  else .rxHold

/-- Tx Codec decode over the same vector, first match wins (R98). -/
def txOp (c : ControlVec) : Instr :=
  if fits c 0b0100 0b0100 then .txClear
  else if fits c 0b1100 0b1000 then .txLoad
  else if fits c 0b1111 0b0010 then .txShift
  else .txHold

/-- Header-byte decode, first match wins (R91, R103). -/
def headerOp (h : WireByte) : Instr :=
  if h == 0xF0 then .hdrOkToSend
  else if h == 0xFF then .hdrNotReady
  else .hdrEvent (h.extractLsb' 4 4) (h.extractLsb' 0 4)

/-- Inbound trailer byte: id above flags (R82, R83). -/
def trailerOp (b : WireByte) : Instr := .inbTrailer (b.extractLsb' 4 4) (b.extractLsb' 0 4)

/-- The four bits of a FSM4 or CTL4 word. -/
def fourBits (c : Component) (b : WireByte) : Except DecodeError (BitVec 4) :=
  if b.toNat < 16 then .ok (b.setWidth 4) else .error (.aboveFourBits c b)

/-- Decode of a word of the given component, total on any bytes (R102). -/
def decode (c : Component) (bytes : List WireByte) : Except DecodeError Instr :=
  match c, bytes with
  | .inputConditioner, [] => .ok .cond
  | .dispatcher, [b] =>
    match fourBits c b with
    | .error e => .error e
    | .ok code =>
      match fsmOp code with
      | some i => .ok i
      | none => .error (.unusedFsmCode code)
  | .rxCodec, [b] =>
    match fourBits c b with
    | .error e => .error e
    | .ok v => .ok (rxOp v)
  | .txCodec, [b] =>
    match fourBits c b with
    | .error e => .error e
    | .ok v => .ok (txOp v)
  | .headerByte, [b] => .ok (headerOp b)
  | .inboundTrailer, [b] => .ok (trailerOp b)
  | c, bs => .error (.wrongLength c bs.length)

/-- The word of an operation, as the table's row gives it (don't-care bits 0). -/
def encode : Instr → List WireByte
  | .start => [0b0000]
  | .idle => [0b0001]
  | .okToSend => [0b0010]
  | .waitStmData => [0b0011]
  | .receiving => [0b0100]
  | .receiveHandshake => [0b0101]
  | .waitForTxn => [0b0110]
  | .sendEvent => [0b0111]
  | .sendingEvent => [0b1000]
  | .periphEvent => [0b1001]
  | .sendData => [0b1010]
  | .sending => [0b1011]
  | .rxClear => [0b0100]
  | .rxShift => [0b0001]
  | .rxHold => [0b0000]
  | .txClear => [0b0100]
  | .txLoad => [0b1000]
  | .txShift => [0b0010]
  | .txHold => [0b0000]
  | .cond => []
  | .hdrOkToSend => [0b11110000]
  | .hdrNotReady => [0b11111111]
  | .hdrEvent bc id => [bc ++ id]
  | .inbTrailer id flags => [id ++ flags]

/-- The "mask" and "match" of an operation's row in the table, for its one byte. -/
def tableMaskMatch : Instr → WireByte × WireByte
  | .start => (15, 0)
  | .idle => (15, 1)
  | .okToSend => (15, 2)
  | .waitStmData => (15, 3)
  | .receiving => (15, 4)
  | .receiveHandshake => (15, 5)
  | .waitForTxn => (15, 6)
  | .sendEvent => (15, 7)
  | .sendingEvent => (15, 8)
  | .periphEvent => (15, 9)
  | .sendData => (15, 10)
  | .sending => (15, 11)
  | .rxClear => (4, 4)
  | .rxShift => (7, 1)
  | .rxHold => (0, 0)
  | .txClear => (4, 4)
  | .txLoad => (12, 8)
  | .txShift => (15, 2)
  | .txHold => (0, 0)
  | .cond => (0, 0)
  | .hdrOkToSend => (255, 240)
  | .hdrNotReady => (255, 255)
  | .hdrEvent _ _ => (0, 0)
  | .inbTrailer _ _ => (0, 0)

/-- The bytes of a table word of `nbits` bits: the least significant byte first. -/
def wordBytes (nbits w : Nat) : List WireByte :=
  (List.range ((nbits + 7) / 8)).map fun k => BitVec.ofNat 8 (w >>> (8 * k))

/-- The decode of an untagged word. The six formats overlap and a number does not say which one it is; DESIGN CHOICE
(log entry 8): no bits is the conditioner's step, a byte below 16 is an `fsm` code, any other byte is a header byte. -/
def decodeTableWord (nbits w : Nat) : Option Instr :=
  match wordBytes nbits w with
  | [] => (decode .inputConditioner []).toOption
  | b :: bs =>
    if b.toNat < 16 then (decode .dispatcher (b :: bs)).toOption
    else (decode .headerByte (b :: bs)).toOption

end Sys2Proof
end

