-- ==== Sys2Proof/Config.lean ====
section
/-! DEFINITION. Config.lean: what an implementation fixes (the parameters of 00_scope.md rules R6 to R8, the slot
table of 10_state.md rule R40) and the free inputs of the ticks (10_state.md rule R45). -/

namespace Sys2Proof
namespace Config

/-- `PKT_SIZE`: bytes in a packet (R6). -/
abbrev pktSize : Nat := 16
/-- `QW`: bits in a symbol (R6). -/
abbrev qw : Nat := 4
/-- `W = PKT_SIZE * 8` (R7). -/
abbrev w : Nat := pktSize * 8
/-- `N_SYM = PKT_SIZE * 8 / QW`: symbols in a full packet (R7). -/
abbrev nSym : Nat := pktSize * 8 / qw
/-- The upper bound of `NUM_PERIPHS`: ids 0 to 14 may be registered, 15 never is (R8, R92). -/
abbrev maxPeriphs : Nat := 15

end Config

/-- The capability flags of one registered id (R40, R41). -/
structure Slot where
  canReceive : Bool
  canSend : Bool
deriving DecidableEq, Repr, Inhabited

/-- The Peripheral Registry as the CORE sees it (R40): `NUM_PERIPHS`, at most 15, and for each of the ids 0 to 14 its
slot, `none` where the id is not registered. The type admits no id above 14 (R190, 93_implementation_defined.md U3). -/
structure SlotTable where
  numPeriphs : Fin 16
  slots : Vector (Option Slot) 15
deriving DecidableEq, Repr

/-- What peripheral `i` drives in one tick: `p_valid[i]`, `p_pkt[i]`, `p_bc[i]`, `p_ready[i]` (R45). -/
structure PeriphIn where
  valid : Bool
  pkt : Packet
  bc : ByteCount
  ready : Bool
deriving DecidableEq, Repr, Inhabited

/-- All inputs of one tick (R45), and the value `UNREG_READY` has in that tick (R192). -/
structure TickIn where
  /-- `cs_raw`: true is the level 1, inactive. -/
  csRaw : Bool
  /-- `clk_raw`. -/
  clkRaw : Bool
  /-- `dq_in`. -/
  dqIn : Symbol
  /-- What each of the peripherals 0 to 14 drives. -/
  periphs : Vector PeriphIn 15
  /-- `UNREG_READY`: what the Dispatcher sees as `ready` for a destination without an inbound-capable slot. A free
  boolean of each tick (R8, R192). DESIGN CHOICE (log entry 3): it is drawn with the tick's inputs. -/
  unregReady : Bool
deriving DecidableEq, Repr, Inhabited

/-- The inputs of tick `n` where State lists none: nothing is known of them (R73). DESIGN CHOICE (log entry 2), safe:
an uninterpreted constant. -/
opaque Config.envInput : Nat → TickIn

end Sys2Proof
end

