-- ==== Sys2Proof/Machine/State.lean ====
section
/-! DEFINITION. Machine/State.lean: the state of the CORE (10_state.md rules R20 to R38) as plain data, one structure
per component (ownership, R51), and the state after reset (70_reset_and_hazards.md rule R241). The CORE has no
addressable memory (R21), so State holds none. -/

namespace Sys2Proof
namespace Machine

/-- The twelve Dispatcher states (R30). An enumeration, as R99 asks, so that codes 12 to 15 cannot be held. -/
inductive Fsm where
  | start
  | idle
  | okToSend
  | waitStmData
  | receiving
  | receiveHandshake
  | waitForTxn
  | sendEvent
  | sendingEvent
  | periphEvent
  | sendData
  | sending
deriving DecidableEq, Repr

/-- The Input Conditioner's registers (R22 to R25); `true` is the level 1. -/
structure Conditioner where
  /-- `cs_ff0`, first synchronizer stage of chip-select (R22). -/
  csFf0 : Bool
  /-- `cs_ff1`, second stage: the settled chip-select `cs_s` (R22). -/
  csFf1 : Bool
  /-- `cs_prev`, the settled chip-select of the previous tick (R23). -/
  csPrev : Bool
  /-- `clk_ff0` (R24). -/
  clkFf0 : Bool
  /-- `clk_ff1`, the settled clock `clk_s` (R24). -/
  clkFf1 : Bool
  /-- `clk_prev` (R25). -/
  clkPrev : Bool
deriving DecidableEq, Repr

/-- The Rx Codec's registers (R26, R27). -/
structure RxCodec where
  /-- `rx_buf`, the shift buffer. -/
  buf : Packet
  /-- `rx_cnt`, the symbol counter. -/
  cnt : SymCount
deriving DecidableEq, Repr

/-- The Tx Codec's registers (R28, R29). -/
structure TxCodec where
  /-- `tx_sh`, the shift register. -/
  sh : Packet
  /-- `tx_cnt`, the symbol counter, which nothing reads. -/
  cnt : SymCount
deriving DecidableEq, Repr

/-- The Dispatcher's registers (R30 to R38). -/
structure Dispatcher where
  /-- `fsm` (R30). -/
  fsm : Fsm
  /-- `tx_pkt`, whose top byte is the header `hdr` (R31). -/
  txPkt : Packet
  /-- `rx_pkt` (R32). -/
  rxPkt : Packet
  /-- `rx_valid` (R33). -/
  rxValid : Bool
  /-- `dest_id` (R34). -/
  destId : PeriphId
  /-- `rx_flags` (R35). -/
  rxFlags : FlagsField
  /-- `rx_bc` (R36). -/
  rxBc : ByteCount
  /-- `evt_id` (R37). -/
  evtId : PeriphId
  /-- `dir` (R38). -/
  dir : Bool
  /-- `oe` (R38). -/
  oe : Bool
deriving DecidableEq, Repr

/-- The machine's state: the registers of the four components, and the model's own fields: the slot table (the
configuration of R40; log entry 1), the inputs listed for the coming ticks and the tick number (R73, R211; log
entry 2). -/
structure State where
  cond : Conditioner
  rx : RxCodec
  tx : TxCodec
  disp : Dispatcher
  /-- The slot table: no step writes it (R40). -/
  slots : SlotTable
  /-- The inputs of the coming ticks, this tick's first. A step takes one; where the list is empty the tick's inputs are
  the free `Config.envInput`. -/
  script : List TickIn
  /-- The number of this tick, counted from 0 at the START tick (R211). -/
  tick : Nat
deriving DecidableEq, Repr

/-- The CORE has no exception, fault or trap (R220): no step ends in a fault, so this type has no constructor. Safe. -/
inductive Fault where
deriving DecidableEq, Repr

/-- Why a step could be refused. -/
inductive Refusal where
  /-- Raised by `exec` alone, for an operation that has no meaning yet; none is left. Safe. -/
  | notModelled (mnemonic : String)
deriving DecidableEq, Repr

/-- The slot table with no id registered (R40). -/
def emptySlots : SlotTable := ⟨15, Vector.replicate 15 none⟩

/-- Every register at its reset value (R241), for a given slot table and given inputs. -/
def State.resetWith (slots : SlotTable) (script : List TickIn) : State where
  cond := ⟨true, true, true, false, false, false⟩
  rx := ⟨0, 0⟩
  tx := ⟨0, 0⟩
  disp :=
    { fsm := .start, txPkt := 0, rxPkt := 0, rxValid := false, destId := 0, rxFlags := 0, rxBc := 0, evtId := 0,
      dir := false, oe := true }
  slots := slots
  script := script
  tick := 0

/-- The state after reset. The registers are as R241 says; the model's own fields are DESIGN CHOICE: no slot
registered (log entry 1), no input listed and tick 0 (log entry 2). -/
def State.reset : State := State.resetWith emptySlots []

end Machine
end Sys2Proof
end

