-- ==== Sys2Proof/Machine/Flags.lean ====
section
/-! DEFINITION. Machine/Flags.lean: the signals derived from the registers: settled values and edges
(40_input_conditioner.md rules R113 to R115), the control vector (30_encoding.md rule R96) and the status bit
`rx_ready` (41_rx_codec.md rule R124, 10_state.md rule R42). -/

namespace Sys2Proof
namespace Machine

/-- `cs_s`, the settled chip-select (R113). -/
def State.csS (s : State) : Bool := s.cond.csFf1

/-- `clk_s`, the settled clock (R113). -/
def State.clkS (s : State) : Bool := s.cond.clkFf1

/-- `active`: a transaction is in progress (R113). -/
def State.active (s : State) : Bool := !s.csS

/-- `cs_fall` (R114). -/
def State.csFall (s : State) : Bool := s.cond.csPrev && !s.csS

/-- `cs_rise` (R114). -/
def State.csRise (s : State) : Bool := !s.cond.csPrev && s.csS

/-- `clk_rise` (R115). -/
def State.clkRise (s : State) : Bool := !s.cond.clkPrev && s.clkS

/-- `clk_fall` (R115). -/
def State.clkFall (s : State) : Bool := s.cond.clkPrev && !s.clkS

/-- `rx_edge`, the Rx Codec's qualifying clock edge (R115). -/
def State.rxEdge (s : State) : Bool := s.active && s.clkRise

/-- `tx_edge`, the Tx Codec's qualifying clock edge (R115). -/
def State.txEdge (s : State) : Bool := s.active && s.clkFall

/-- The control vector `c = {cs_prev, cs_s, clk_prev, clk_s}` (R96). -/
def State.controlVec (s : State) : ControlVec :=
  BitVec.ofBool s.cond.csPrev ++ BitVec.ofBool s.csS ++ BitVec.ofBool s.cond.clkPrev ++ BitVec.ofBool s.clkS

/-- `rx_ready`, a level, asserted exactly when `rx_cnt == N_SYM` (R124). -/
def State.rxReady (s : State) : Bool := s.rx.cnt.toNat == Config.nSym

end Machine
end Sys2Proof
end

