-- ==== Sys2Proof/Machine/Registry.lean ====
section
/-! DEFINITION. Machine/Registry.lean: the slot table as the CORE reads it (10_state.md rules R40, R41) and the
`register` calls that fill it before the engine starts (44_peripheral_interface.md rule R190). -/

namespace Sys2Proof

/-- The slot of id `i`: none for an id that is not below `NUM_PERIPHS` (R40). -/
def SlotTable.slot (t : SlotTable) (i : Nat) : Option Slot :=
  if i < t.numPeriphs.val then (t.slots[i]?).join else none

/-- `registered[i]` (R40). -/
def SlotTable.registered (t : SlotTable) (i : Nat) : Bool := (t.slot i).isSome

/-- `can_receive[i]`, false where the id is not registered: the slot is inbound-capable (R40, R41). -/
def SlotTable.canReceive (t : SlotTable) (i : Nat) : Bool := (t.slot i).any Slot.canReceive

/-- `can_send[i]`, false where the id is not registered: the slot is outbound-capable (R40, R41). -/
def SlotTable.canSend (t : SlotTable) (i : Nat) : Bool := (t.slot i).any Slot.canSend

/-- `register(id, handle, canReceive, canSend)`: the last call for an id wins. `none` for an id that is not below
`NUM_PERIPHS`: the configuration is then ill-formed (R190; log entry 6). The handle is the wires of index `id` (R40). -/
def SlotTable.register (t : SlotTable) (id : Nat) (s : Slot) : Option SlotTable :=
  if id < t.numPeriphs.val then some { t with slots := t.slots.setIfInBounds id (some s) } else none

/-- The table a sequence of `register` calls leaves behind (R190). -/
def SlotTable.registerAll (t : SlotTable) : List (Nat × Slot) → Option SlotTable
  | [] => some t
  | (id, s) :: calls =>
    match t.register id s with
    | some t' => SlotTable.registerAll t' calls
    | none => none

end Sys2Proof
end

