-- ==== Sys2Proof/Machine/Operands.lean ====
section
/-! DEFINITION. Machine/Operands.lean: what an operation reads besides the registers: the inputs of the tick
(10_state.md rules R45, R46), the poll of the outbound-capable slots (43_dispatcher.md rule R153), `ready_eff`
(44_peripheral_interface.md rule R192), and the operation that `fsm` selects (30_encoding.md rule R99). -/

namespace Sys2Proof

/-- The inputs of a peripheral that drives nothing. -/
def PeriphIn.quiet : PeriphIn := ⟨false, 0, 0, false⟩

/-- What the wires of index `i` carry. Ids above 14 have no wires: no rule reads them (R46; log entry 7). -/
def TickIn.periph (x : TickIn) (i : Nat) : PeriphIn := (x.periphs[i]?).getD PeriphIn.quiet

/-- A tick in which the host presents the given levels and no peripheral drives anything (R211). -/
def TickIn.host (cs clk : Bool) (dq : Symbol) : TickIn := ⟨cs, clk, dq, Vector.replicate 15 PeriphIn.quiet, false⟩

/-- The same tick with what peripheral `i` drives. -/
def TickIn.withPeriph (x : TickIn) (i : Nat) (p : PeriphIn) : TickIn :=
  { x with periphs := x.periphs.setIfInBounds i p }

namespace Machine

/-- The inputs of this tick (R45): the script's first entry, or the free inputs where the script has ended. -/
def State.input (s : State) : TickIn :=
  match s.script with
  | [] => Config.envInput s.tick
  | x :: _ => x

/-- `i` is in the set `V`: outbound-capable, and its output is valid in this tick (R153). `p_valid[i]` is not read
unless `can_send[i]` (R46). -/
def State.requests (s : State) (i : Nat) : Bool := s.slots.canSend i && (s.input.periph i).valid

/-- The poll: the least id of `V`, lowest id first (R153, R225). -/
def State.poll (s : State) : Option Nat := (List.range Config.maxPeriphs).find? s.requests

/-- `ready_eff`: the addressed peripheral's ready, or the free `UNREG_READY` where the destination has no
inbound-capable slot (R192). -/
def State.readyEff (s : State) : Bool :=
  if s.slots.canReceive s.disp.destId.toNat then (s.input.periph s.disp.destId.toNat).ready else s.input.unregReady

/-- The code of a Dispatcher state (R30). -/
def Fsm.code : Fsm → BitVec 4
  | .start => 0
  | .idle => 1
  | .okToSend => 2
  | .waitStmData => 3
  | .receiving => 4
  | .receiveHandshake => 5
  | .waitForTxn => 6
  | .sendEvent => 7
  | .sendingEvent => 8
  | .periphEvent => 9
  | .sendData => 10
  | .sending => 11

/-- The action of a Dispatcher state (R99). -/
def Fsm.op : Fsm → Instr
  | .start => .start
  | .idle => .idle
  | .okToSend => .okToSend
  | .waitStmData => .waitStmData
  | .receiving => .receiving
  | .receiveHandshake => .receiveHandshake
  | .waitForTxn => .waitForTxn
  | .sendEvent => .sendEvent
  | .sendingEvent => .sendingEvent
  | .periphEvent => .periphEvent
  | .sendData => .sendData
  | .sending => .sending

end Machine
end Sys2Proof
end

