-- ==== Sys2Proof/Machine/Packet.lean ====
section
/-! DEFINITION. Machine/Packet.lean: the fields of packets and of the wire formats, and the formulas that compute
them (20_memory.md rule R62, 30_encoding.md rules R82 to R89). -/

namespace Sys2Proof
namespace Machine

/-- The reserved header value `OK_TO_SEND` (R87). -/
def okToSendByte : WireByte := 0xF0

/-- The reserved header value `NOT_READY` (R88). -/
def notReadyByte : WireByte := 0xFF

/-- Byte 0 from the top, `p[W-1:W-8]`: the header position (R31, R62). -/
def topByte (p : Packet) : WireByte := p.extractLsb' 120 8

/-- The rest, `p[W-9:0]`. -/
def belowTop (p : Packet) : BitVec 120 := p.extractLsb' 0 120

/-- Write of `p[W-1:W-8]` that leaves `p[W-9:0]` unchanged (R31). -/
def withTopByte (p : Packet) (b : WireByte) : Packet := b ++ belowTop p

/-- Symbol `k` from the top, `p[W-1-QW*k : W-QW-QW*k]` (R62); 0 for `k >= N_SYM`, where there is none. -/
def symbolFromTop (p : Packet) (k : Nat) : Symbol := (p <<< (4 * k)).extractLsb' 124 4

/-- Byte `k` from the top (R62); 0 for `k >= PKT_SIZE`, where there is none. -/
def byteFromTop (p : Packet) (k : Nat) : WireByte := topByte (p <<< (8 * k))

/-- The destination id of an inbound packet, `rx_buf[W-1:W-4]` (R83). -/
def trailerId (p : Packet) : PeriphId := p.extractLsb' 124 4

/-- The flags of an inbound packet, `rx_buf[W-5:W-8]` (R83). -/
def trailerFlags (p : Packet) : FlagsField := p.extractLsb' 120 4

/-- The inbound byteCount `(floor(rx_cnt * QW / 8) - 1) mod 2^BC_W` (R85). -/
def inboundByteCount (cnt : SymCount) : ByteCount := BitVec.ofNat 5 (cnt.toNat * Config.qw / 8) - 1

/-- The event header `(zext_8(bc & 0xF) << 4) | zext_8(i)` (R89). -/
def eventHeader (bc : ByteCount) (i : PeriphId) : WireByte := ((bc &&& 0xF).setWidth 8 <<< 4) ||| i.setWidth 8

/-- A new symbol enters at the high end and the same width is dropped off the low end (R122). -/
def shiftIn (p : Packet) (q : Symbol) : Packet := q ++ p.extractLsb' 4 124

/-- The top symbol is shifted out and the vacated low bits are zero-filled (R138). -/
def shiftOut (p : Packet) : Packet := p.extractLsb' 0 124 ++ (0 : Symbol)

end Machine
end Sys2Proof
end

