-- ==== Sys2Proof/Machine/Ops.lean ====
section
/-! DEFINITION. Machine/Ops.lean: the register transfers the meanings are made of. The CORE takes no exception
(60_exceptions.md rule R220); in the place of exception entry and return stand `grantEvent` and `endEvent`, the
interrupt to the host (R227, R228). -/

namespace Sys2Proof
namespace Machine

/-- What every operation answers: a next state, and by R220 never a fault. -/
abbrev Result := Host.Outcome State Fault Refusal

/-- `fsm <- f` (R11, R30). -/
def State.goto (s : State) (f : Fsm) : State := { s with disp := { s.disp with fsm := f } }

/-- A write of the header byte `tx_pkt[W-1:W-8]`; the rest of `tx_pkt` keeps its value (R31). -/
def State.stageHeader (s : State) (h : WireByte) : State :=
  { s with disp := { s.disp with txPkt := withTopByte s.disp.txPkt h } }

/-- The trailer fields into `dest_id` and `rx_flags` (R83). -/
def State.latchTrailer (s : State) (id : PeriphId) (flags : FlagsField) : State :=
  { s with disp := { s.disp with destId := id, rxFlags := flags } }

/-- `oe <- b` (R156, R158). -/
def State.setOe (s : State) (b : Bool) : State := { s with disp := { s.disp with oe := b } }

/-- `dir <- b` (R153, R167). -/
def State.setDir (s : State) (b : Bool) : State := { s with disp := { s.disp with dir := b } }

/-- `rx_valid <- b` (R158, R160). -/
def State.setRxValid (s : State) (b : Bool) : State := { s with disp := { s.disp with rxValid := b } }

/-- `rx_pkt <- rx_buf` and the byteCount computed from `rx_cnt`, both of this tick (R85, R158). -/
def State.snapshot (s : State) : State :=
  { s with disp := { s.disp with rxPkt := s.rx.buf, rxBc := inboundByteCount s.rx.cnt } }

/-- All that RECEIVING writes when the write ends, but `fsm` (R158). -/
def State.capture (s : State) : State :=
  ((((s.snapshot.setRxValid true).setOe true).stageHeader notReadyByte).latchTrailer
    (trailerId s.rx.buf) (trailerFlags s.rx.buf))

/-- Entry of the interrupt to the host: the granted id is latched, its header staged, `dir` raised (R153, R227). -/
def State.grantEvent (s : State) (i : PeriphId) (bc : ByteCount) : State :=
  (({ s with disp := { s.disp with evtId := i } } : State).stageHeader (eventHeader bc i)).setDir true |>.goto .sendEvent

/-- Return from the interrupt to the host: header and `dir` restored, back to IDLE (R167, R228). -/
def State.endEvent (s : State) : State := ((s.stageHeader okToSendByte).setDir false).goto .idle

/-- `tx_pkt <- p`, all `W` bits (R165). -/
def State.setTxPkt (s : State) (p : Packet) : State := { s with disp := { s.disp with txPkt := p } }

/-- A state that waits: `fsm <- f` if the awaited event is there, nothing otherwise (R168). -/
def State.awaits (s : State) (event : Bool) (f : Fsm) : State := if event then s.goto f else s

/-- The conditioner's registers after a tick with the given raw levels (R111, R112). -/
def Conditioner.sample (c : Conditioner) (csRaw clkRaw : Bool) : Conditioner :=
  { csFf0 := csRaw, csFf1 := c.csFf0, csPrev := c.csFf1, clkFf0 := clkRaw, clkFf1 := c.clkFf0, clkPrev := c.clkFf1 }

/-- `rx_buf` and `rx_cnt` take the given values (R121, R122). -/
def State.setRx (s : State) (buf : Packet) (cnt : SymCount) : State := { s with rx := ⟨buf, cnt⟩ }

/-- `tx_sh` and `tx_cnt` take the given values (R136 to R138). -/
def State.setTx (s : State) (sh : Packet) (cnt : SymCount) : State := { s with tx := ⟨sh, cnt⟩ }

/-- The end of a tick: each component's registers from that component's operation, all computed from the one pre-tick
state (R51, R70); the slot table is unchanged (R40); the tick's inputs are used up. -/
def State.join (s a b c d : State) : State :=
  { cond := a.cond, rx := b.rx, tx := c.tx, disp := d.disp, slots := s.slots, script := s.script.tail, tick := s.tick + 1 }

/-- Go on with the next state, if there is one. -/
def andThen (o : Result) (f : State → Result) : Result :=
  match o with
  | .next s => f s
  | .fault r => .fault r
  | .refused r => .refused r

end Machine
end Sys2Proof
end

