-- ==== Sys2Proof/Machine/Conditioner.lean ====
section
/-! DEFINITION. Machine/Conditioner.lean: the Input Conditioner's operation (40_input_conditioner.md). -/

namespace Sys2Proof
namespace Machine

/-- COND: both synchronizers shift and both history bits follow the settled values (R111, R112). -/
def execCond (s : State) : Result := .next { s with cond := s.cond.sample s.input.csRaw s.input.clkRaw }

end Machine
end Sys2Proof
end

