-- ==== Sys2Proof/Machine/Dispatcher.lean ====
section
/-! DEFINITION. Machine/Dispatcher.lean: the twelve Dispatcher actions (43_dispatcher.md rules R150 to R167). Each
answers its state's action of one tick: at most one branch, and a register the branch does not write holds (R168). -/

namespace Sys2Proof
namespace Machine

/-- START: the header is preloaded with `OK_TO_SEND`, unconditionally to IDLE (R150). -/
def execStart (s : State) : Result := .next ((s.stageHeader okToSendByte).goto .idle)

/-- IDLE in its fixed priority order (R151): a host write (R152), else the lowest valid peripheral (R153), else
nothing (R154). -/
def execIdle (s : State) : Result :=
  .next (
    if s.csFall then s.goto .okToSend
    else
      match s.poll with
      | some i => s.grantEvent (BitVec.ofNat 4 i) (s.input.periph i).bc
      | none => s)

/-- OK_TO_SEND: the probe's end (R155). -/
def execOkToSend (s : State) : Result := .next (s.awaits s.csRise .waitStmData)

/-- WAIT_STM_DATA: output-enable is dropped in every tick (R156), and the write's begin is awaited (R157). -/
def execWaitStmData (s : State) : Result := .next ((s.setOe false).awaits s.csFall .receiving)

/-- RECEIVING: at the write's end everything received is captured (R158); until then nothing (R159). -/
def execReceiving (s : State) : Result := .next (if s.csRise then s.capture.goto .receiveHandshake else s)

/-- RECEIVE_HANDSHAKE: completion when the addressed peripheral is ready (R160), else a stall (R161). -/
def execReceiveHandshake (s : State) : Result :=
  .next (if s.readyEff then (s.setRxValid false).goto .waitForTxn else s)

/-- WAIT_FOR_TXN: the follow-up probe's end restores the header (R162). -/
def execWaitForTxn (s : State) : Result :=
  .next (if s.csRise then (s.stageHeader okToSendByte).goto .idle else s)

/-- SEND_EVENT: the dummy read's begin (R163). -/
def execSendEvent (s : State) : Result := .next (s.awaits s.csFall .sendingEvent)

/-- SENDING_EVENT: the dummy read's end (R164). -/
def execSendingEvent (s : State) : Result := .next (s.awaits s.csRise .periphEvent)

/-- PERIPH_EVENT: the granted peripheral's packet of this tick, all of it, into `tx_pkt` (R165). -/
def execPeriphEvent (s : State) : Result :=
  .next ((s.setTxPkt (s.input.periph s.disp.evtId.toNat).pkt).goto .sendData)

/-- SEND_DATA: the real read's begin (R166). -/
def execSendData (s : State) : Result := .next (s.awaits s.csFall .sending)

/-- SENDING: the real read's end is the end of the event (R167). -/
def execSending (s : State) : Result := .next (if s.csRise then s.endEvent else s)

end Machine
end Sys2Proof
end

