-- ==== Sys2Proof/Machine/RxCodec.lean ====
section
/-! DEFINITION. Machine/RxCodec.lean: the Rx Codec's micro-operations (41_rx_codec.md). The decode has checked their
conditions (30_encoding.md rule R97). -/

namespace Sys2Proof
namespace Machine

/-- RX_CLEAR: buffer and counter to zero (R121). -/
def execRxClear (s : State) : Result := .next (s.setRx 0 0)

/-- RX_SHIFT: `dq_in` of this tick enters at the high end, the counter wraps modulo 64 (R122). -/
def execRxShift (s : State) : Result := .next (s.setRx (shiftIn s.rx.buf s.input.dqIn) (s.rx.cnt + 1))

/-- RX_HOLD: both keep their values (R123). -/
def execRxHold (s : State) : Result := .next s

end Machine
end Sys2Proof
end

