-- ==== Sys2Proof/Machine/TxCodec.lean ====
section
/-! DEFINITION. Machine/TxCodec.lean: the Tx Codec's micro-operations (42_tx_codec.md). The decode has checked their
conditions (30_encoding.md rule R98). -/

namespace Sys2Proof
namespace Machine

/-- TX_CLEAR: shift register and counter to zero (R136). -/
def execTxClear (s : State) : Result := .next (s.setTx 0 0)

/-- TX_LOAD: the snapshot of `tx_pkt` as it is before any Dispatcher write of this tick (R137). -/
def execTxLoad (s : State) : Result := .next (s.setTx s.disp.txPkt 0)

/-- TX_SHIFT: the top symbol is shifted out, the counter wraps modulo 64 (R138). -/
def execTxShift (s : State) : Result := .next (s.setTx (shiftOut s.tx.sh) (s.tx.cnt + 1))

/-- TX_HOLD: both keep their values (R139). -/
def execTxHold (s : State) : Result := .next s

end Machine
end Sys2Proof
end

