-- ==== Sys2Proof/Machine/WireFormats.lean ====
section
/-! DEFINITION. Machine/WireFormats.lean: the rows of the header byte and of the inbound trailer byte (30_encoding.md
rules R83, R86 to R89). The effect of a header value is its staging in `hdr = tx_pkt[W-1:W-8]`; the effect of the
trailer byte is the extraction of its fields. The Dispatcher actions contain these effects (R150, R153, R158, R162,
R167); DEDUCED, log entry 9. -/

namespace Sys2Proof
namespace Machine

/-- HDR_OK_TO_SEND: the header byte becomes `0xF0` (R87). -/
def execHdrOkToSend (s : State) : Result := .next (s.stageHeader okToSendByte)

/-- HDR_NOT_READY: the header byte becomes `0xFF` (R88). -/
def execHdrNotReady (s : State) : Result := .next (s.stageHeader notReadyByte)

/-- HDR_EVENT: the header byte becomes byteCount nibble above source id (R86, R89). -/
def execHdrEvent (bc : BitVec 4) (id : PeriphId) (s : State) : Result := .next (s.stageHeader (bc ++ id))

/-- INB_TRAILER: the id becomes the destination, the flags are latched (R83). -/
def execInbTrailer (id : PeriphId) (flags : FlagsField) (s : State) : Result := .next (s.latchTrailer id flags)

end Machine
end Sys2Proof
end

