-- ==== Sys2Proof/Machine/Dispatch.lean ====
section
/-! DEFINITION. Machine/Dispatch.lean: one arm per operation of the table (30_encoding.md rule R96). -/

namespace Sys2Proof
namespace Machine

def exec (i : Instr) (s : State) : Host.Outcome State Fault Refusal :=
  match i with
  -- Dispatcher, format FSM4
  | .start => Sys2Proof.Machine.execStart s
  | .idle => Sys2Proof.Machine.execIdle s
  | .okToSend => Sys2Proof.Machine.execOkToSend s
  | .waitStmData => Sys2Proof.Machine.execWaitStmData s
  | .receiving => Sys2Proof.Machine.execReceiving s
  | .receiveHandshake => Sys2Proof.Machine.execReceiveHandshake s
  | .waitForTxn => Sys2Proof.Machine.execWaitForTxn s
  | .sendEvent => Sys2Proof.Machine.execSendEvent s
  | .sendingEvent => Sys2Proof.Machine.execSendingEvent s
  | .periphEvent => Sys2Proof.Machine.execPeriphEvent s
  | .sendData => Sys2Proof.Machine.execSendData s
  | .sending => Sys2Proof.Machine.execSending s
  -- Rx Codec, format CTL4
  | .rxClear => Sys2Proof.Machine.execRxClear s
  | .rxShift => Sys2Proof.Machine.execRxShift s
  | .rxHold => Sys2Proof.Machine.execRxHold s
  -- Tx Codec, format CTL4
  | .txClear => Sys2Proof.Machine.execTxClear s
  | .txLoad => Sys2Proof.Machine.execTxLoad s
  | .txShift => Sys2Proof.Machine.execTxShift s
  | .txHold => Sys2Proof.Machine.execTxHold s
  -- Input Conditioner, format NONE
  | .cond => Sys2Proof.Machine.execCond s
  -- wire formats, HDR8 and TRL8
  | .hdrOkToSend => Sys2Proof.Machine.execHdrOkToSend s
  | .hdrNotReady => Sys2Proof.Machine.execHdrNotReady s
  | .hdrEvent bc id => Sys2Proof.Machine.execHdrEvent bc id s
  | .inbTrailer id flags => Sys2Proof.Machine.execInbTrailer id flags s

end Machine
end Sys2Proof
end

