-- ==== Sys2Proof/Machine/Outputs.lean ====
section
/-! DEFINITION. Machine/Outputs.lean: the outputs, each a function of the registers (10_state.md rules R47, R49;
44_peripheral_interface.md rules R191, R193). `rx_ready` is `State.rxReady` of Flags.lean. -/

namespace Sys2Proof
namespace Machine

/-- `hdr = tx_pkt[W-1:W-8]` (R43). -/
def State.hdr (s : State) : WireByte := topByte s.disp.txPkt

/-- `dq_out = tx_sh[W-1:W-QW]` (R47, R140). -/
def State.dqOut (s : State) : Symbol := s.tx.sh.extractLsb' 124 4

/-- `dq_oe = oe` (R47). -/
def State.dqOe (s : State) : Bool := s.disp.oe

/-- `dir_out = dir` (R47). -/
def State.dirOut (s : State) : Bool := s.disp.dir

/-- `pkt_out = rx_pkt` (R47, R191). -/
def State.pktOut (s : State) : Packet := s.disp.rxPkt

/-- `bc_out = rx_bc` (R47, R191). -/
def State.bcOut (s : State) : ByteCount := s.disp.rxBc

/-- `flags_out = rx_flags` (R47, R191). -/
def State.flagsOut (s : State) : FlagsField := s.disp.rxFlags

/-- `valid[i]`, for `i` with `can_receive[i]` (R47, R191); low where there is no such output. -/
def State.valid (s : State) (i : Nat) : Bool :=
  s.slots.canReceive i && (s.disp.rxValid && s.disp.destId.toNat == i)

/-- `ack[i]`, for `i` with `can_send[i]` (R47, R193); low where there is no such output. -/
def State.ack (s : State) (i : Nat) : Bool :=
  s.slots.canSend i && (s.disp.fsm == .periphEvent && s.disp.evtId.toNat == i)

end Machine
end Sys2Proof
end

