-- ==== Sys2Proof/Machine/Fetch.lean ====
section
/-! DEFINITION. Machine/Fetch.lean: which operations a tick performs (30_encoding.md rules R96 to R99), and how a state
is arranged so that the next tick performs a given one. -/

namespace Sys2Proof
namespace Machine

/-- The header and trailer operations the Dispatcher's action of this tick contains (R150, R153, R158, R162, R167). -/
def State.wireOps (s : State) : List Instr :=
  match s.disp.fsm with
  | .start => [.hdrOkToSend]
  | .idle =>
    if s.csFall then []
    else
      match s.poll with
      | some i => [headerOp (eventHeader (s.input.periph i).bc (BitVec.ofNat 4 i))]
      | none => []
  | .receiving =>
    if s.csRise then [.hdrNotReady, .inbTrailer (trailerId s.rx.buf) (trailerFlags s.rx.buf)] else []
  | .waitForTxn => if s.csRise then [.hdrOkToSend] else []
  | .sending => if s.csRise then [.hdrOkToSend] else []
  | _ => []

/-- All operations of this tick: the conditioner's, the codecs', the Dispatcher's, and what that contains (R96). -/
def State.tickOps (s : State) : List Instr :=
  [.cond, rxOp s.controlVec, txOp s.controlVec, s.disp.fsm.op] ++ s.wireOps

/-- `fsm` holds `f`. -/
def State.inFsm (s : State) (f : Fsm) : State := { s with disp := { s.disp with fsm := f } }

/-- The conditioner shows the control vector `c` (R96). -/
def State.withControl (s : State) (c : ControlVec) : State :=
  { s with cond :=
      { s.cond with
        csPrev := c.getLsbD 3, csFf1 := c.getLsbD 2, clkPrev := c.getLsbD 1, clkFf1 := c.getLsbD 0 } }

/-- The inputs of this tick are `x`. -/
def State.withInput (s : State) (x : TickIn) : State := { s with script := x :: s.script }

/-- The inputs of a tick in which the host leaves the bus alone and no peripheral drives anything (R244). -/
def quietTick : TickIn := TickIn.host true false 0

/-- Slot `i` is outbound-capable, in a table of fifteen (R40). -/
def State.withSender (s : State) (i : Nat) : State :=
  { s with slots := ⟨15, s.slots.slots.setIfInBounds i (some ⟨false, true⟩)⟩ }

/-- `s` arranged so that the next tick performs `i` (log entry 8). A Dispatcher action needs its state in `fsm`; a codec
operation its control vector; COND nothing. A header value is placed through an action that stages it: `0xF0` through
START (R150), `0xFF` through the end of a write (R158), an event header through a grant (R153); the trailer byte through
the end of a write with that byte on top of `rx_buf` (R158). In each case the tick's inputs are given, quiet but for the
granted peripheral's. -/
def State.place (s : State) (i : Instr) : State :=
  match i with
  | .start => (s.inFsm .start).withInput quietTick
  | .idle => (s.inFsm .idle).withInput quietTick
  | .okToSend => (s.inFsm .okToSend).withInput quietTick
  | .waitStmData => (s.inFsm .waitStmData).withInput quietTick
  | .receiving => (s.inFsm .receiving).withInput quietTick
  | .receiveHandshake => (s.inFsm .receiveHandshake).withInput quietTick
  | .waitForTxn => (s.inFsm .waitForTxn).withInput quietTick
  | .sendEvent => (s.inFsm .sendEvent).withInput quietTick
  | .sendingEvent => (s.inFsm .sendingEvent).withInput quietTick
  | .periphEvent => (s.inFsm .periphEvent).withInput quietTick
  | .sendData => (s.inFsm .sendData).withInput quietTick
  | .sending => (s.inFsm .sending).withInput quietTick
  | .rxClear => (s.withControl 0b0100).withInput quietTick
  | .rxShift => (s.withControl 0b0001).withInput quietTick
  | .rxHold => (s.withControl 0b0000).withInput quietTick
  | .txClear => (s.withControl 0b0100).withInput quietTick
  | .txLoad => (s.withControl 0b1000).withInput quietTick
  | .txShift => (s.withControl 0b0010).withInput quietTick
  | .txHold => (s.withControl 0b0000).withInput quietTick
  | .cond => s.withInput quietTick
  | .hdrOkToSend => (s.inFsm .start).withInput quietTick
  | .hdrNotReady => ((s.inFsm .receiving).withControl 0b0100).withInput quietTick
  | .hdrEvent bc id =>
    (((s.inFsm .idle).withControl 0b1100).withSender id.toNat).withInput
      (quietTick.withPeriph id.toNat ⟨true, 0, bc.setWidth 5, false⟩)
  | .inbTrailer id flags =>
    (((s.inFsm .receiving).withControl 0b0100).setRx (withTopByte s.rx.buf (id ++ flags)) s.rx.cnt).withInput quietTick

end Machine
end Sys2Proof
end

