-- ==== Sys2Proof/Machine/Step.lean ====
section
/-! DEFINITION. Machine/Step.lean: the tick (20_memory.md rule R70). Every component performs its operation on one and
the same pre-tick state, and the results are joined by ownership. -/

namespace Sys2Proof
namespace Machine

/-- One tick (R70, R96): COND, the Rx and Tx operations the control vector selects, and the action `fsm` selects. -/
def step (s : State) : Host.Outcome State Fault Refusal :=
  andThen (exec .cond s) fun a =>
  andThen (exec (rxOp s.controlVec) s) fun b =>
  andThen (exec (txOp s.controlVec) s) fun c =>
  andThen (exec s.disp.fsm.op s) fun d =>
  .next (s.join a b c d)

/-- `s` arranged so that the very next step performs the operation the table word stands for (log entry 8); a word that
the decoder rejects changes nothing. -/
def State.withFetchWord (s : State) (nbits w : Nat) : State :=
  match decodeTableWord nbits w with
  | some i => s.place i
  | none => s

end Machine
end Sys2Proof
end

