-- ==== Sys2Proof/Machine/HostPort.lean ====
section
/-! DEFINITION. Machine/HostPort.lean: the host's side of the protocol: how a host reads a header byte (30_encoding.md
rule R91, 45_host_protocol.md rule R207), how the engine takes a transaction (R205), and the notation for bus activity
(R211, R212, R218). Nothing here is part of a step. -/

namespace Sys2Proof
namespace Machine

/-- What a header byte says to the host (R91). -/
inductive HeaderClass where
  | okToSend
  | notReady
  | event (id : PeriphId) (bcNibble : BitVec 4)
deriving DecidableEq, Repr

/-- The host's reading of a header byte, first match wins (R91, R103). -/
def classifyHeader (h : WireByte) : HeaderClass :=
  if h = 0xF0 then .okToSend
  else if h = 0xFF then .notReady
  else .event (h.extractLsb' 0 4) (h.extractLsb' 4 4)

/-- The host's next transaction (R207). -/
inductive HostNext where
  | realWrite
  | probe
  | realRead
deriving DecidableEq, Repr

/-- The host's next transaction after a probe that read the given header (R207). -/
def HeaderClass.next : HeaderClass → HostNext
  | .okToSend => .realWrite
  | .notReady => .probe
  | .event _ _ => .realRead

/-- What the engine takes a transaction as (R205). -/
inductive TransactionKind where
  | writeProbe
  | realWrite
  | followUpProbe
  | dummyRead
  | realRead
  | ignored
deriving DecidableEq, Repr

/-- The engine classifies a transaction by the state it is in when it sees `cs_fall` (R205). -/
def transactionKind : Fsm → TransactionKind
  | .idle => .writeProbe
  | .waitStmData => .realWrite
  | .receiveHandshake | .waitForTxn => .followUpProbe
  | .sendEvent => .dummyRead
  | .sendData => .realRead
  | .start | .okToSend | .receiving | .sendingEvent | .periphEvent | .sending => .ignored

/-- What the host sees of the data lines in a tick: `dq_out` while the engine drives them (R47, R48). -/
def State.hostSample (s : State) : Option Symbol := if s.dqOe then some s.dqOut else none

/-- `n` times `TICK(cs, clk, dq)` (R211). -/
def ticks (n : Nat) (cs clk : Bool) (dq : Symbol) : List TickIn := List.replicate n (TickIn.host cs clk dq)

/-- `GAP(n)` (R212). -/
def gap (n : Nat) : List TickIn := ticks n true false 0

/-- The clock pulses of a write: each symbol through its high phase, the next one already in the low phase; the last
symbol stays (R212). -/
def writePulses : List Symbol → List TickIn
  | [] => []
  | [q] => ticks 4 false true q ++ ticks 4 false false q
  | q :: r :: rest => ticks 4 false true q ++ ticks 4 false false r ++ writePulses (r :: rest)

/-- `WR[s_0 .. s_{n-1}]` (R212). -/
def wr (qs : List Symbol) : List TickIn := ticks 4 false false (qs.headD 0) ++ writePulses qs

/-- `RD(n)` (R212). -/
def rd : Nat → List TickIn := fun n =>
  ticks 4 false false 0 ++ (List.replicate n (ticks 4 false true 0 ++ ticks 4 false false 0)).flatten

/-- `PROBE` (R212). -/
def probe : List TickIn := rd 2

/-- The `k`-th sample of an `RD`, from the ticks `vs` of its expansion: what the host sees of the data lines in the first
tick of the `k`-th high phase, which is tick `4 + 8k` (R212, R213). -/
def readSample (vs : List State) (k : Nat) : Option Symbol := (vs[4 + 8 * k]?).bind State.hostSample

/-- Byte `k` from the top as a reading host assembles it, `{sample_2k, sample_2k+1}` (R218). -/
def readByte (vs : List State) (k : Nat) : Option WireByte :=
  (readSample vs (2 * k)).bind fun a => (readSample vs (2 * k + 1)).map fun b => a ++ b

/-- The header byte a `PROBE` reads, `{sample_0, sample_1}` (R212). -/
def probeByte (vs : List State) : Option WireByte := readByte vs 0

/-- The same script with the peripheral inputs given as a function of the tick number, which starts at `from0`
(R211). -/
def withPeriphs (from0 : Nat) (f : Nat → Vector PeriphIn 15) : List TickIn → List TickIn
  | [] => []
  | x :: xs => { x with periphs := f from0 } :: withPeriphs (from0 + 1) f xs

/-- The symbols of a host write with payload bytes `B_1 .. B_m`, each low nibble first, then flags, then id (R218). -/
def writeSymbols (payload : List WireByte) (flags : FlagsField) (id : PeriphId) : List Symbol :=
  payload.flatMap (fun b => [b.extractLsb' 0 4, b.extractLsb' 4 4]) ++ [flags, id]

end Machine
end Sys2Proof
end

