-- ==== Sys2Proof/Safety.lean ====
section
/-! DEFINITION. Safety.lean: the terms statements are written in: runs, the rest state, the invariants of the
machine, and the obligations the spec lays on the host and on the peripherals. The engine checks none of those
obligations (30_encoding.md rule R100), and neither does a step. -/

namespace Sys2Proof
namespace Machine

/-- `Path s vs t`: from `s` the machine ticks through exactly the pre-tick states `vs` and is then in `t`. -/
def Path : State → List State → State → Prop
  | s, [], t => s = t
  | s, v :: vs, t => s = v ∧ ∃ u, step s = .next u ∧ Path u vs t

/-- A component's operation writes no other component's registers, nor the configuration, nor the inputs (R51). -/
def sameButCond (s t : State) : Prop :=
  t.rx = s.rx ∧ t.tx = s.tx ∧ t.disp = s.disp ∧ t.slots = s.slots ∧ t.script = s.script ∧ t.tick = s.tick

/-- As `sameButCond`, for the Rx Codec. -/
def sameButRx (s t : State) : Prop :=
  t.cond = s.cond ∧ t.tx = s.tx ∧ t.disp = s.disp ∧ t.slots = s.slots ∧ t.script = s.script ∧ t.tick = s.tick

/-- As `sameButCond`, for the Tx Codec. -/
def sameButTx (s t : State) : Prop :=
  t.cond = s.cond ∧ t.rx = s.rx ∧ t.disp = s.disp ∧ t.slots = s.slots ∧ t.script = s.script ∧ t.tick = s.tick

/-- As `sameButCond`, for the Dispatcher. -/
def sameButDisp (s t : State) : Prop :=
  t.cond = s.cond ∧ t.rx = s.rx ∧ t.tx = s.tx ∧ t.slots = s.slots ∧ t.script = s.script ∧ t.tick = s.tick

/-- The states of the outbound half after the grant (R173). -/
def Fsm.outbound : Fsm → Bool
  | .sendEvent | .sendingEvent | .periphEvent | .sendData | .sending => true
  | _ => false

/-- The states whose header is an event header (R44). -/
def Fsm.showsEvent : Fsm → Bool
  | .sendEvent | .sendingEvent | .periphEvent => true
  | _ => false

/-- The states whose header is `OK_TO_SEND` (R44, R87). -/
def Fsm.showsOkToSend : Fsm → Bool
  | .idle | .okToSend | .waitStmData | .receiving => true
  | _ => false

/-- The states whose header is `NOT_READY` (R44, R88). -/
def Fsm.showsNotReady : Fsm → Bool
  | .receiveHandshake | .waitForTxn => true
  | _ => false

/-- The status bits and the header agree with the Dispatcher's state (R44, R174). -/
structure State.StatusInv (s : State) : Prop where
  dir : s.disp.dir = s.disp.fsm.outbound
  rxValid : s.disp.rxValid = (s.disp.fsm == .receiveHandshake)
  oeReceiving : s.disp.fsm = .receiving → s.disp.oe = false
  oeElsewhere : s.disp.fsm ≠ .waitStmData → s.disp.fsm ≠ .receiving → s.disp.oe = true
  hdrStart : s.disp.fsm = .start → s.hdr = 0x00
  hdrOkToSend : s.disp.fsm.showsOkToSend = true → s.hdr = 0xF0
  hdrNotReady : s.disp.fsm.showsNotReady = true → s.hdr = 0xFF
  hdrEvent : s.disp.fsm.showsEvent = true → s.hdr.extractLsb' 0 4 = s.disp.evtId
  evtSlot : s.disp.fsm.outbound = true → s.slots.canSend s.disp.evtId.toNat = true

/-- The chip-select history agrees with the Dispatcher's state and with the codecs: a state that only a `cs_fall` leads
to has chip-select low in its history until its `cs_rise`, IDLE and the other states that await a `cs_fall` after a
high level have it high, and after a tick with chip-select high the codecs are clear (R121, R136, R243). -/
structure State.LineInv (s : State) : Prop where
  start : s.disp.fsm = .start → s.cond.csPrev = true ∧ s.csS = true
  high : s.disp.fsm = .idle ∨ s.disp.fsm = .waitStmData ∨ s.disp.fsm = .sendEvent ∨ s.disp.fsm = .periphEvent →
    s.cond.csPrev = true
  low : s.disp.fsm = .okToSend ∨ s.disp.fsm = .receiving ∨ s.disp.fsm = .sendingEvent ∨ s.disp.fsm = .sending →
    s.cond.csPrev = false
  cleared : s.cond.csPrev = true → s.rx = ⟨0, 0⟩ ∧ s.tx = ⟨0, 0⟩

/-- The rest state (R238): IDLE, chip-select high, no peripheral valid, `dir = 0`, `oe = 1`, `hdr = 0xF0`,
`rx_valid = 0`, codecs cleared. -/
def State.atRest (s : State) : Prop :=
  s.disp.fsm = .idle ∧ s.csS = true ∧ (∀ i, s.requests i = false) ∧ s.disp.dir = false ∧ s.disp.oe = true ∧
    s.hdr = 0xF0 ∧ s.disp.rxValid = false ∧ s.rx = ⟨0, 0⟩ ∧ s.tx = ⟨0, 0⟩

/-- The pulses of a kind in a list of ticks. -/
def edges (p : State → Bool) (vs : List State) : Nat := vs.countP p

/-- The symbols the Rx Codec samples in a list of ticks, in the order sent (R63, R117). -/
def sampled (vs : List State) : List Symbol := (vs.filter State.rxEdge).map fun v => v.input.dqIn

/-! ## Obligations of a peripheral -/

/-- A legal outbound byteCount (R199). -/
def legalByteCount (bc : ByteCount) : Prop := bc.toNat ≤ Config.pktSize ∧ bc &&& 0xF ≠ 0xF

/-- Outbound peripheral `i` holds `p_valid`, `p_bc` and `p_pkt` from the tick it raises valid until its ack (R197). R198
sets no time by which a `p_valid` left high past its ack tick may still be dropped. DESIGN CHOICE (log entry 17): a
`p_valid` high in any tick without ack counts as an offer that is held until the next ack. -/
def holdsUntilAck (i : Nat) : List State → Prop
  | v :: w :: rest =>
    ((v.input.periph i).valid = true → v.ack i = false →
      (w.input.periph i).valid = true ∧ (w.input.periph i).bc = (v.input.periph i).bc ∧
        (w.input.periph i).pkt = (v.input.periph i).pkt) ∧ holdsUntilAck i (w :: rest)
  | _ => True

/-- Inbound peripheral `i` accepts a presented packet in some tick of the list (R195). -/
def accepts (i : Nat) (vs : List State) : Prop := ∃ v ∈ vs, v.valid i = true ∧ (v.input.periph i).ready = true

/-! ## Obligations of the host -/

/-- A legal length of a host write, in symbols (R214 item 3). -/
def legalWriteLength (n : Nat) : Prop := 2 ≤ n ∧ n ≤ Config.nSym ∧ n % 2 = 0

/-- What the host makes of a transaction: a write of these symbols, or a read (a probe, a dummy read or a real read) of so
many. The bus does not signal which (R205). -/
inductive HostTransaction where
  | write (qs : List Symbol)
  | read (n : Nat)
deriving DecidableEq, Repr

/-- A single transaction within the host's obligations: a write has a legal length, and its last symbol is the id of an
inbound-capable slot; a read clocks at most `N_SYM` symbols (R214 items 2 and 3). -/
def HostTransaction.legal (slots : SlotTable) : HostTransaction → Bool
  | .write qs =>
    decide (2 ≤ qs.length) && decide (qs.length ≤ Config.nSym) && qs.length % 2 == 0 &&
      qs.getLast?.any fun id => slots.canReceive id.toNat
  | .read n => decide (n ≤ Config.nSym)

/-- The transaction the host owes next (R206 to R208): none in particular, the real write after a probe that read
`0xF0`, a follow-up probe after a write, the real read after an event header. -/
inductive HostDue where
  | nothing
  | realWrite
  | followUpProbe
  | realRead
deriving DecidableEq, Repr

/-- What the host owes after a transaction that showed it the given header and whose `cs_rise` was seen in the given
state; `none` if it breaks the sequence of R206 and R208 (R214 item 1). Where nothing or a follow-up probe is due, the
host reads at least the header byte, and that says what follows (R207, R209): so an interrupt is answered by two reads.
Follow-up probes go on until one of them ends in WAIT_FOR_TXN (R206). -/
def HostDue.after (due : HostDue) (made : HostTransaction) (header : WireByte) (endsIn : Fsm) : Option HostDue :=
  match due, made with
  | .nothing, .read n | .followUpProbe, .read n =>
    if n < 2 then none
    else
      match (classifyHeader header).next with
      | .realWrite => some .realWrite
      | .realRead => some .realRead
      | .probe => some (if endsIn == .waitForTxn then .nothing else .followUpProbe)
  | .realWrite, .write _ => some .followUpProbe
  | .realRead, .read _ => some .nothing
  | .nothing, .write _ | .followUpProbe, .write _ | .realWrite, .read _ | .realRead, .write _ => none

/-- The transactions of a run (R205): for each its ticks with the settled chip-select low, and the `cs_rise` tick that
ends it. `cur` holds the ticks of one in progress; one still in progress at the end of the run is left out. -/
def transactionsOf (cur : Option (List State)) : List State → List (List State × State)
  | [] => []
  | v :: vs =>
    match cur with
    | none => transactionsOf (if v.csFall then some [v] else none) vs
    | some ws => if v.csS then (ws, v) :: transactionsOf none vs else transactionsOf (some (ws ++ [v])) vs

/-- The transaction seen on the bus is the one the host made: the symbols of a write, the number clocked by a read. -/
def HostTransaction.seenAs (made : HostTransaction) (ticks : List State) : Bool :=
  match made with
  | .write qs => sampled ticks == qs
  | .read n => (sampled ticks).length == n

/-- The transactions follow each other as the host owes them; each is seen as made, and legal (R214 items 1 to 3). The
header of a transaction is the one that is loaded for it, `hdr` of its first tick (R137). -/
def keepsSequence (slots : SlotTable) : HostDue → List HostTransaction → List (List State × State) → Bool
  | _, [], [] => true
  | due, made :: more, (vs, t) :: rest =>
    made.seenAs vs && made.legal slots &&
      match due.after made ((vs.head?.map State.hdr).getD 0) t.disp.fsm with
      | some due' => keepsSequence slots due' more rest
      | none => false
  | _, [], _ :: _ => false
  | _, _ :: _, [] => false

/-- In the run `vs` from reset the host made the transactions `made` and kept its obligations on their sequence, their
destinations and their lengths (R214 items 1 to 3). DESIGN CHOICE (log entry 18): what the host made of each transaction
is given beside the run, and a transaction that is owed but not yet made or ended breaks nothing. -/
def hostKeepsProtocol (slots : SlotTable) (made : List HostTransaction) (vs : List State) : Bool :=
  keepsSequence slots .nothing made (transactionsOf none vs)

/-- The host may drive the data lines in this tick (R231, R252). -/
def State.hostMayDrive (s : State) : Bool := !s.disp.oe

/-- The clock is low whenever chip-select is high and at every chip-select edge, on the samples (R214 item 5, R251). -/
def clockIdlesLow : List TickIn → Bool
  | x :: y :: rest =>
    (!(x.csRaw && x.clkRaw)) && (x.csRaw == y.csRaw || !y.clkRaw) && clockIdlesLow (y :: rest)
  | [x] => !(x.csRaw && x.clkRaw)
  | [] => true

/-- Before every rising clock edge of a read the clock has been low with chip-select low for at least 3 samples (R249);
`run` counts them, `high` is the previous sample of the clock. -/
def lowPhasesLast (run : Nat) (high : Bool) : List TickIn → Bool
  | [] => true
  | x :: xs =>
    if x.csRaw then lowPhasesLast 0 false xs
    else if x.clkRaw then (high || decide (3 ≤ run)) && lowPhasesLast 0 true xs
    else lowPhasesLast (run + 1) false xs

/-- Between two transactions chip-select is sampled high in at least 2 consecutive ticks (R250); `run` counts them, and
the list starts with chip-select high. -/
def gapsLast (run : Nat) : List TickIn → Bool
  | [] => true
  | x :: xs =>
    if x.csRaw then gapsLast (run + 1) xs
    else (run == 0 || decide (2 ≤ run)) && gapsLast 0 xs

end Machine
end Sys2Proof
end

