-- ==== Sys2Proof/Certificates/Slice0/Obligations.lean ====
section
/-! DEFINITION. Obligations.lean: the statements about the CORE, for the provers. `s` is the state of a tick, its inputs
included; `exec i s` is one operation, `step s` a whole tick, `Path s vs t` a run of ticks through the pre-tick states
`vs`. Statements about all states hold in states no run reaches, too, unless an invariant stands in their premises. -/

open Sys2Proof Sys2Proof.Machine

/-! ## Reset -/

/-- 70_reset_and_hazards.md R241: the reset value of every register, whatever the slot table and the inputs. -/
def Obligations.ResetGivesEveryRegisterItsValue : Prop :=
  (∀ slots script,
    let s := State.resetWith slots script
    s.cond.csFf0 = true ∧ s.cond.csFf1 = true ∧ s.cond.csPrev = true ∧
    s.cond.clkFf0 = false ∧ s.cond.clkFf1 = false ∧ s.cond.clkPrev = false ∧
    s.rx.buf = 0 ∧ s.rx.cnt = 0 ∧ s.tx.sh = 0 ∧ s.tx.cnt = 0 ∧
    s.disp.fsm = .start ∧ s.disp.fsm.code = 0 ∧ s.disp.txPkt = 0 ∧ s.disp.rxPkt = 0 ∧ s.disp.rxValid = false ∧
    s.disp.destId = 0 ∧ s.disp.rxFlags = 0 ∧ s.disp.rxBc = 0 ∧ s.disp.evtId = 0 ∧ s.disp.dir = false ∧
    s.disp.oe = true) ∧
  ∃ slots script, State.reset = State.resetWith slots script

/-- R242: the outputs in tick 0. -/
def Obligations.OutputsInTickZero : Prop :=
  ∀ slots script,
    let s := State.resetWith slots script
    s.dqOut = 0 ∧ s.dqOe = true ∧ s.dirOut = false ∧ (∀ i, s.valid i = false) ∧ (∀ i, s.ack i = false) ∧
    s.rxReady = false ∧ s.pktOut = 0 ∧ s.bcOut = 0 ∧ s.flagsOut = 0

/-- The two invariants hold right after reset, whatever the slot table and the inputs. -/
def Obligations.ResetMeetsBothInvariants : Prop :=
  State.reset.StatusInv ∧ State.reset.LineInv ∧
  ∀ slots script, (State.resetWith slots script).StatusInv ∧ (State.resetWith slots script).LineInv

/-- R243: the first two ticks see no chip-select edge, and from tick 1 on the engine is in IDLE with `hdr = 0xF0`. -/
def Obligations.FirstTicksSeeNoEdge : Prop :=
  ∀ slots script v0 v1 t, Path (State.resetWith slots script) [v0, v1] t →
    v0.disp.fsm = .start ∧ v0.hdr = 0x00 ∧ v0.csFall = false ∧ v0.csRise = false ∧
    v1.disp.fsm = .idle ∧ v1.hdr = 0xF0 ∧ v1.disp.dir = false ∧ v1.disp.oe = true ∧ v1.disp.rxValid = false ∧
    v1.csFall = false ∧ v1.csRise = false ∧ v1.csS = true ∧ v1.rx = ⟨0, 0⟩ ∧ v1.tx = ⟨0, 0⟩ ∧
    t.csFall = !v0.input.csRaw

/-! ## Invariants -/

/-- 43_dispatcher.md R174 with 10_state.md R44: status bits and header agree with the Dispatcher's state at reset, and
every step keeps it so; `oe` is dropped from WAIT_STM_DATA's second tick, and the header of the outbound half is the
staged event header until the packet is copied, then the packet's top byte. -/
def Obligations.StatusInvariantIsKept : Prop :=
  (∀ slots script, (State.resetWith slots script).StatusInv) ∧
  ∀ s t, s.StatusInv → step s = .next t →
    t.StatusInv ∧
    (t.disp.fsm = .waitStmData → t.disp.oe = (s.disp.fsm != .waitStmData)) ∧
    (s.disp.fsm = .idle → t.disp.fsm = .sendEvent →
      t.hdr = eventHeader (s.input.periph t.disp.evtId.toNat).bc t.disp.evtId) ∧
    (t.disp.fsm.outbound = true → s.disp.fsm ≠ .idle → s.disp.fsm ≠ .periphEvent → t.hdr = s.hdr) ∧
    (s.disp.fsm = .periphEvent → t.hdr = topByte (s.input.periph s.disp.evtId.toNat).pkt)

/-- The chip-select history agrees with the Dispatcher's state and the codecs, and every step keeps it so. -/
def Obligations.LineInvariantIsKept : Prop :=
  ∀ s t, s.LineInv → step s = .next t → t.LineInv

/-! ## Encoding and decode -/

/-- Every well-formed operation is what its component's decode reads from its word. -/
def Obligations.DecodeOfEncodeIsTheOperation : Prop :=
  ∀ i : Instr, i.wellFormed = true → decode i.component (encode i) = .ok i

/-- A decoded operation belongs to the component asked, is well formed, and but for the codecs, whose rows leave bits
open, its word is the word read. -/
def Obligations.DecodedWordsAreWellFormed : Prop :=
  ∀ c bytes i, decode c bytes = .ok i →
    i.component = c ∧ i.wellFormed = true ∧ (c ≠ .rxCodec → c ≠ .txCodec → encode i = bytes)

/-- 30_encoding.md R97: the Rx Codec's decode over the control vector, first match wins. -/
def Obligations.RxDecodeFollowsItsPatterns : Prop :=
  ∀ c : ControlVec,
    (c.getLsbD 2 = true → decode .rxCodec [c.setWidth 8] = .ok .rxClear) ∧
    (c.getLsbD 2 = false → c.getLsbD 1 = false → c.getLsbD 0 = true →
      decode .rxCodec [c.setWidth 8] = .ok .rxShift) ∧
    (c.getLsbD 2 = false → (c.getLsbD 1 = true ∨ c.getLsbD 0 = false) →
      decode .rxCodec [c.setWidth 8] = .ok .rxHold)

/-- R98: the Tx Codec's decode over the control vector, first match wins. -/
def Obligations.TxDecodeFollowsItsPatterns : Prop :=
  ∀ c : ControlVec,
    (c.getLsbD 2 = true → decode .txCodec [c.setWidth 8] = .ok .txClear) ∧
    (c.getLsbD 3 = true → c.getLsbD 2 = false → decode .txCodec [c.setWidth 8] = .ok .txLoad) ∧
    (c = 0b0010 → decode .txCodec [c.setWidth 8] = .ok .txShift) ∧
    (c.getLsbD 3 = false → c.getLsbD 2 = false → c ≠ 0b0010 → decode .txCodec [c.setWidth 8] = .ok .txHold)

/-- R99: the codes 0 to 11 select the twelve actions, the codes 12 to 15 are rejected by name. -/
def Obligations.FsmCodesSelectTheActions : Prop :=
  (∀ f : Fsm, decode .dispatcher [f.code.setWidth 8] = .ok f.op) ∧
  (∀ code : BitVec 4, code.toNat < 12 → ∃ f : Fsm, f.code = code) ∧
  ∀ code : BitVec 4, 12 ≤ code.toNat → decode .dispatcher [code.setWidth 8] = .error (.unusedFsmCode code)

/-- R91: the host's reading of a header byte; the decode of the three header rows makes the same distinction. -/
def Obligations.HeaderBytesAreClassified : Prop :=
  ∀ h : WireByte,
    (h = 0xF0 → classifyHeader h = .okToSend ∧ decode .headerByte [h] = .ok .hdrOkToSend) ∧
    (h = 0xFF → classifyHeader h = .notReady ∧ decode .headerByte [h] = .ok .hdrNotReady) ∧
    (h ≠ 0xF0 → h ≠ 0xFF →
      classifyHeader h = .event (h.extractLsb' 0 4) (h.extractLsb' 4 4) ∧
      decode .headerByte [h] = .ok (.hdrEvent (h.extractLsb' 4 4) (h.extractLsb' 0 4)))

/-- One written-out word of each format. -/
def Obligations.WrittenWordsDecode : Prop :=
  decode .dispatcher [0b0101] = .ok .receiveHandshake ∧ decode .rxCodec [0b1001] = .ok .rxShift ∧
  decode .txCodec [0b1011] = .ok .txLoad ∧ decode .inputConditioner [] = .ok .cond ∧
  decode .headerByte [0b01010001] = .ok (.hdrEvent 5 1) ∧ decode .inboundTrailer [0b10010011] = .ok (.inbTrailer 9 3) ∧
  decode .dispatcher [0b1100] = .error (.unusedFsmCode 12)

/-! ## The tick -/

/-- A step runs the decoded operations: COND, what the control vector decodes to in either codec, and what the `fsm`
code decodes to, each on the state of the tick; their results are joined by ownership, the slot table stays, one tick's
inputs are used up (20_memory.md section 4, 30_encoding.md section 4). -/
def Obligations.StepRunsTheDecodedOperations : Prop :=
  ∀ s r x d,
    decode .rxCodec [s.controlVec.setWidth 8] = .ok r →
    decode .txCodec [s.controlVec.setWidth 8] = .ok x →
    decode .dispatcher [s.disp.fsm.code.setWidth 8] = .ok d →
    ∃ a b e f t, exec .cond s = .next a ∧ exec r s = .next b ∧ exec x s = .next e ∧ exec d s = .next f ∧
      step s = .next t ∧ t.cond = a.cond ∧ t.rx = b.rx ∧ t.tx = e.tx ∧ t.disp = f.disp ∧
      t.slots = s.slots ∧ t.script = s.script.tail ∧ t.tick = s.tick + 1

/-- 60_exceptions.md section 1 and R237: no operation and no tick ends in a fault or a refusal. -/
def Obligations.EveryTickCompletes : Prop :=
  (∀ s, ∃ t, step s = .next t) ∧ ∀ i s, ∃ t, exec i s = .next t

/-- 10_state.md R51: every operation writes its own component's registers only; header and trailer belong to the
Dispatcher. -/
def Obligations.EveryRegisterHasOneWriter : Prop :=
  ∀ i s t, exec i s = .next t →
    match i.component with
    | .inputConditioner => sameButCond s t
    | .rxCodec => sameButRx s t
    | .txCodec => sameButTx s t
    | .dispatcher | .headerByte | .inboundTrailer => sameButDisp s t

/-- 20_memory.md section 4: the tick computes on the pre-tick state. Run one after the other, Tx before Dispatcher before
Rx before COND, the operations selected before the tick give the very registers the tick gives. -/
def Obligations.SequentialOrderGivesTheTick : Prop :=
  ∀ s s1 s2 s3 s4, exec (txOp s.controlVec) s = .next s1 → exec s.disp.fsm.op s1 = .next s2 →
    exec (rxOp s.controlVec) s2 = .next s3 → exec .cond s3 = .next s4 →
    step s = .next { s4 with script := s.script.tail, tick := s.tick + 1 }

/-- The header and trailer operations a tick contains have their effect in that tick. -/
def Obligations.WireOperationsTakeEffectInTheTick : Prop :=
  ∀ s i u t, i ∈ s.wireOps → exec i s = .next u → step s = .next t →
    (i.component = .headerByte → t.hdr = u.hdr) ∧
    (i.component = .inboundTrailer → t.disp.destId = u.disp.destId ∧ t.disp.rxFlags = u.disp.rxFlags)

/-- A state arranged for an operation has it among the operations of its tick; the model's own arrangement (log
entry 8). Id 15 has no slot (R40), so no tick stages its event header. -/
def Obligations.PlacedOperationIsInTheTick : Prop :=
  ∀ (s : State) (i : Instr), i.wellFormed = true → (∀ bc id, i = .hdrEvent bc id → id ≠ 15) → i ∈ (s.place i).tickOps

/-- 10_state.md R40, R76: along every run the slot table stays, and every tick uses up one tick's inputs. -/
def Obligations.SlotTableIsNeverWritten : Prop :=
  ∀ s vs t, Path s vs t →
    t.slots = s.slots ∧ t.script = s.script.drop vs.length ∧ t.tick = s.tick + vs.length

/-- R47: the outputs, functions of the registers. -/
def Obligations.OutputsAreRegisters : Prop :=
  ∀ (s : State) (i : Nat),
    s.dqOut = s.tx.sh.extractLsb' 124 4 ∧ s.dqOe = s.disp.oe ∧ s.dirOut = s.disp.dir ∧ s.pktOut = s.disp.rxPkt ∧
    s.bcOut = s.disp.rxBc ∧ s.flagsOut = s.disp.rxFlags ∧
    (s.slots.canReceive i = true → (s.valid i = true ↔ s.disp.rxValid = true ∧ s.disp.destId.toNat = i)) ∧
    (s.slots.canSend i = true → (s.ack i = true ↔ s.disp.fsm = .periphEvent ∧ s.disp.evtId.toNat = i)) ∧
    (s.rxReady = true ↔ s.rx.cnt.toNat = 32)

/-! ## Input Conditioner -/

/-- 40_input_conditioner.md R111 and R112: COND completes in every state with these registers and writes no other, and
every tick performs it. -/
def Obligations.CondShiftsTheControlPair : Prop :=
  ∀ s, ∃ t, exec .cond s = .next t ∧ sameButCond s t ∧
    t.cond.csFf0 = s.input.csRaw ∧ t.cond.csFf1 = s.cond.csFf0 ∧
    t.cond.clkFf0 = s.input.clkRaw ∧ t.cond.clkFf1 = s.cond.clkFf0 ∧
    t.cond.csPrev = s.cond.csFf1 ∧ t.cond.clkPrev = s.cond.clkFf1 ∧
    ∀ u, step s = .next u → u.cond = t.cond

/-- R114: chip-select edges: what they are, never both at once, `active` in the falling tick and not in the rising one,
and each true for one tick only. -/
def Obligations.ChipSelectEdgesLastOneTick : Prop :=
  ∀ s,
    (s.csFall = true ↔ s.cond.csPrev = true ∧ s.csS = false) ∧
    (s.csRise = true ↔ s.cond.csPrev = false ∧ s.csS = true) ∧
    ¬(s.csFall = true ∧ s.csRise = true) ∧
    (s.csFall = true → s.active = true) ∧ (s.csRise = true → s.active = false) ∧
    ∀ t, step s = .next t →
      (s.csFall = true → t.csFall = false) ∧ (s.csRise = true → t.csRise = false)

/-- 40_input_conditioner.md R116: the settled levels are the raw samples of two ticks before, unfiltered, and an edge is
seen two ticks after the sample that differs from its predecessor. -/
def Obligations.ControlLinesSettleTwoTicksLate : Prop :=
  ∀ s v0 v1 v2 t, Path s [v0, v1, v2] t →
    t.csS = v1.input.csRaw ∧ t.clkS = v1.input.clkRaw ∧
    t.csFall = (v0.input.csRaw && !v1.input.csRaw) ∧ t.csRise = (!v0.input.csRaw && v1.input.csRaw) ∧
    t.clkRise = (!v0.input.clkRaw && v1.input.clkRaw) ∧ t.clkFall = (v0.input.clkRaw && !v1.input.clkRaw)

/-! ## Rx Codec -/

/-- 41_rx_codec.md R121 to R123: the three micro-operations complete in every state and write nothing but the Rx
registers, and a tick performs each under its condition. -/
def Obligations.RxMicroOperations : Prop :=
  (∀ s, ∃ t, exec .rxClear s = .next t ∧ sameButRx s t ∧ t.rx.buf = 0 ∧ t.rx.cnt = 0 ∧ t.rxReady = false) ∧
  (∀ s, ∃ t, exec .rxShift s = .next t ∧ sameButRx s t ∧ t.rx.buf.extractLsb' 124 4 = s.input.dqIn ∧
    t.rx.buf.extractLsb' 0 124 = s.rx.buf.extractLsb' 4 124 ∧ t.rx.cnt.toNat = (s.rx.cnt.toNat + 1) % 64) ∧
  (∀ s, exec .rxHold s = .next s) ∧
  ∀ s t, step s = .next t →
    (s.csS = true → t.rx.buf = 0 ∧ t.rx.cnt = 0 ∧ t.rxReady = false) ∧
    (s.csS = false → s.clkRise = true → t.rx.buf.extractLsb' 124 4 = s.input.dqIn ∧
      t.rx.buf.extractLsb' 0 124 = s.rx.buf.extractLsb' 4 124 ∧ t.rx.cnt.toNat = (s.rx.cnt.toNat + 1) % 64) ∧
    (s.csS = false → s.clkRise = false → t.rx = s.rx)

/-- R124: `rx_ready` is a function of `rx_cnt` alone; it is 0 in the tick after one with the settled chip-select high, it
rises in the tick after the 32nd qualifying edge, and else it changes with a further qualifying edge only. -/
def Obligations.RxReadyIsTheFullCount : Prop :=
  ∀ s, (s.rxReady = true ↔ s.rx.cnt = 32) ∧
    ∀ t, step s = .next t →
      (s.csS = true → t.rxReady = false) ∧
      (s.rxEdge = true → (t.rxReady = true ↔ s.rx.cnt = 31)) ∧
      (s.csS = false → s.rxEdge = false → t.rxReady = s.rxReady)

/-- 20_memory.md R63: in a transaction the newest symbol is on top and the earlier ones lie below it; what was never sent
is 0. The transaction starts after a tick with the settled chip-select high. -/
def Obligations.ReceivedSymbolsStackDownwards : Prop :=
  ∀ u s vs t, u.csS = true → step u = .next s → Path s vs t → (∀ v ∈ vs, v.csS = false) →
    (sampled vs).length ≤ 32 →
    t.rx.cnt.toNat = (sampled vs).length ∧
    (∀ j, j < (sampled vs).length → (sampled vs).reverse[j]? = some (symbolFromTop t.rx.buf j)) ∧
    (∀ j, (sampled vs).length ≤ j → symbolFromTop t.rx.buf j = 0)

/-- 41_rx_codec.md R125, R128: in a transaction of fewer than 96 symbols `rx_ready` is asserted exactly at symbol 32. -/
def Obligations.RxReadyOnlyAtAFullPacket : Prop :=
  ∀ u s vs t, u.csS = true → step u = .next s → Path s vs t → (∀ v ∈ vs, v.csS = false) →
    edges State.rxEdge vs < 96 → (t.rxReady = true ↔ edges State.rxEdge vs = 32)

/-! ## Tx Codec -/

/-- 42_tx_codec.md R136 to R139: the four micro-operations complete in every state and write nothing but the Tx
registers, and a tick performs each under its condition. -/
def Obligations.TxMicroOperations : Prop :=
  (∀ s, ∃ t, exec .txClear s = .next t ∧ sameButTx s t ∧ t.tx.sh = 0 ∧ t.tx.cnt = 0) ∧
  (∀ s, ∃ t, exec .txLoad s = .next t ∧ sameButTx s t ∧ t.tx.sh = s.disp.txPkt ∧ t.tx.cnt = 0) ∧
  (∀ s, ∃ t, exec .txShift s = .next t ∧ sameButTx s t ∧ t.tx.sh.extractLsb' 4 124 = s.tx.sh.extractLsb' 0 124 ∧
    t.tx.sh.extractLsb' 0 4 = 0 ∧ t.tx.cnt.toNat = (s.tx.cnt.toNat + 1) % 64) ∧
  (∀ s, exec .txHold s = .next s) ∧
  ∀ s t, step s = .next t →
    (s.csS = true → t.tx.sh = 0 ∧ t.tx.cnt = 0 ∧ t.dqOut = 0) ∧
    (s.csS = false → s.cond.csPrev = true →
      t.tx.sh = s.disp.txPkt ∧ t.tx.cnt = 0 ∧ t.dqOut = s.disp.txPkt.extractLsb' 124 4) ∧
    (s.csS = false → s.cond.csPrev = false → s.clkFall = true →
      t.tx.sh.extractLsb' 4 124 = s.tx.sh.extractLsb' 0 124 ∧ t.tx.sh.extractLsb' 0 4 = 0 ∧
      t.tx.cnt.toNat = (s.tx.cnt.toNat + 1) % 64) ∧
    (s.csS = false → s.cond.csPrev = false → s.clkFall = false → t.tx = s.tx)

/-- 42_tx_codec.md R141, R142, R144: after `cs_fall` the host is shown the symbols of the packet buffer as it was in that
tick, from the top, one per falling clock edge, whatever the Dispatcher writes meanwhile; from symbol 32 on, zeros. -/
def Obligations.SnapshotIsSentSymbolBySymbol : Prop :=
  (∀ (p : Packet) (k : Nat), 32 ≤ k → symbolFromTop p k = 0) ∧
  ∀ u s vs t, u.csFall = true → step u = .next s → Path s vs t → (∀ v ∈ vs, v.csS = false) →
    t.tx.sh = u.disp.txPkt <<< (4 * edges State.clkFall vs) ∧
    t.dqOut = symbolFromTop u.disp.txPkt (edges State.clkFall vs)

/-- 70_reset_and_hazards.md R253: a chip-select edge and a clock edge in the same tick. -/
def Obligations.CoincidentEdges : Prop :=
  ∀ s t, step s = .next t →
    (s.csFall = true → s.clkRise = true →
      t.rx.buf.extractLsb' 124 4 = s.input.dqIn ∧ t.rx.buf.extractLsb' 0 124 = s.rx.buf.extractLsb' 4 124 ∧
      t.rx.cnt.toNat = (s.rx.cnt.toNat + 1) % 64) ∧
    (s.csFall = true → s.clkFall = true → t.tx.sh = s.disp.txPkt ∧ t.tx.cnt = 0) ∧
    (s.csRise = true → t.rx = ⟨0, 0⟩ ∧ t.tx = ⟨0, 0⟩)

/-! ## Dispatcher, one statement per action or per group of one shape -/

/-- 43_dispatcher.md R150: START stages `0xF0` and goes to IDLE in every state; it is never re-entered. -/
def Obligations.StartPreloadsTheHeader : Prop :=
  (∀ s, ∃ t, exec .start s = .next t ∧ sameButDisp s t ∧
    t.disp = { s.disp with fsm := .idle, txPkt := t.disp.txPkt } ∧
    t.disp.txPkt.extractLsb' 120 8 = 0xF0 ∧ t.disp.txPkt.extractLsb' 0 120 = s.disp.txPkt.extractLsb' 0 120) ∧
  ∀ s t, step s = .next t → t.disp.fsm ≠ .start

/-- R151 to R154: IDLE completes in every state: a falling chip-select always wins, else the least requesting id is
granted, else nothing is written. -/
def Obligations.IdlePriority : Prop :=
  ∀ s,
    (s.csFall = true → ∃ t, exec .idle s = .next t ∧ sameButDisp s t ∧
      t.disp = { s.disp with fsm := .okToSend }) ∧
    (s.csFall = false → ∀ i, s.slots.canSend i = true → (s.input.periph i).valid = true →
      (∀ j, j < i → ¬(s.slots.canSend j = true ∧ (s.input.periph j).valid = true)) →
      ∃ t, exec .idle s = .next t ∧ sameButDisp s t ∧
        t.disp = { s.disp with fsm := .sendEvent, evtId := BitVec.ofNat 4 i, dir := true, txPkt := t.disp.txPkt } ∧
        t.disp.evtId.toNat = i ∧
        (t.disp.txPkt.extractLsb' 120 8).toNat = (s.input.periph i).bc.toNat % 16 * 16 + i ∧
        t.disp.txPkt.extractLsb' 0 120 = s.disp.txPkt.extractLsb' 0 120) ∧
    (s.csFall = false → (∀ i, ¬(s.slots.canSend i = true ∧ (s.input.periph i).valid = true)) →
      exec .idle s = .next s)

/-- 43_dispatcher.md R155, R163, R164, R166: the four states that do nothing but await one chip-select edge. -/
def Obligations.AwaitingStatesMoveOnTheirEdge : Prop :=
  ∀ s,
    (∃ t, exec .okToSend s = .next t ∧ sameButDisp s t ∧
      t.disp = { s.disp with fsm := if s.csRise then .waitStmData else s.disp.fsm }) ∧
    (∃ t, exec .sendEvent s = .next t ∧ sameButDisp s t ∧
      t.disp = { s.disp with fsm := if s.csFall then .sendingEvent else s.disp.fsm }) ∧
    (∃ t, exec .sendingEvent s = .next t ∧ sameButDisp s t ∧
      t.disp = { s.disp with fsm := if s.csRise then .periphEvent else s.disp.fsm }) ∧
    (∃ t, exec .sendData s = .next t ∧ sameButDisp s t ∧
      t.disp = { s.disp with fsm := if s.csFall then .sending else s.disp.fsm }) ∧
    ∀ u, step s = .next u → s.csFall = true → u.tx.sh = s.disp.txPkt

/-- R156, R157: WAIT_STM_DATA completes in every state: `oe` is dropped in every tick, a falling chip-select begins the
write. So `oe` is still 1 in the first tick of the state, and 0 in every tick after a tick in it. -/
def Obligations.WaitStmDataDropsOutputEnable : Prop :=
  (∀ s, ∃ t, exec .waitStmData s = .next t ∧ sameButDisp s t ∧
    t.disp = { s.disp with oe := false, fsm := if s.csFall then .receiving else s.disp.fsm }) ∧
  ∀ s t, step s = .next t →
    (s.disp.fsm = .waitStmData → t.dqOe = false) ∧
    (s.StatusInv → s.disp.fsm ≠ .waitStmData → t.disp.fsm = .waitStmData → t.dqOe = true)

/-- R158, R159: RECEIVING completes in every state: at the rising chip-select it captures all of the write, before it
writes nothing. There is no condition on the length, on `rx_ready` or on the id. -/
def Obligations.ReceivingCapturesTheWrite : Prop :=
  ∀ s,
    (s.csRise = true → ∃ t, exec .receiving s = .next t ∧ sameButDisp s t ∧
      t.disp = { s.disp with
        fsm := .receiveHandshake, rxValid := true, rxPkt := s.rx.buf, oe := true, txPkt := t.disp.txPkt,
        destId := s.rx.buf.extractLsb' 124 4, rxFlags := s.rx.buf.extractLsb' 120 4, rxBc := t.disp.rxBc } ∧
      t.disp.txPkt.extractLsb' 120 8 = 0xFF ∧ t.disp.txPkt.extractLsb' 0 120 = s.disp.txPkt.extractLsb' 0 120 ∧
      t.disp.rxBc.toNat = (s.rx.cnt.toNat * 4 / 8 + 31) % 32) ∧
    (s.csRise = false → exec .receiving s = .next s)

/-- 30_encoding.md R85: the inbound byteCount is computed from the length of the transaction. -/
def Obligations.ByteCountIsTheLengthLessTheTrailer : Prop :=
  ∀ s t, s.disp.fsm = .receiving → s.csRise = true → step s = .next t →
    (t.disp.rxBc.toNat : Int) = ((s.rx.cnt.toNat * 4 / 8 : Nat) - 1 : Int) % 32

/-- R160, R161, R192: RECEIVE_HANDSHAKE completes in every state: when the addressed inbound-capable peripheral is ready,
or for a destination without such a slot when the free `UNREG_READY` is 1, `rx_valid` is cleared; else it stalls and
nothing is written. -/
def Obligations.HandshakeCompletesOrStalls : Prop :=
  ∀ s,
    let d := s.disp.destId.toNat
    let ready := if s.slots.canReceive d then (s.input.periph d).ready else s.input.unregReady
    (ready = true → ∃ t, exec .receiveHandshake s = .next t ∧ sameButDisp s t ∧
      t.disp = { s.disp with rxValid := false, fsm := .waitForTxn }) ∧
    (ready = false → exec .receiveHandshake s = .next s)

/-- R162: WAIT_FOR_TXN completes in every state: the rising chip-select restores the header and leads to IDLE. -/
def Obligations.WaitForTxnRestoresTheHeader : Prop :=
  ∀ s,
    (s.csRise = true → ∃ t, exec .waitForTxn s = .next t ∧ sameButDisp s t ∧
      t.disp = { s.disp with fsm := .idle, txPkt := t.disp.txPkt } ∧
      t.disp.txPkt.extractLsb' 120 8 = 0xF0 ∧ t.disp.txPkt.extractLsb' 0 120 = s.disp.txPkt.extractLsb' 0 120) ∧
    (s.csRise = false → exec .waitForTxn s = .next s)

/-- R165: PERIPH_EVENT completes in every state: all of the granted peripheral's packet of this tick goes into `tx_pkt`;
the ack is high in this tick and low in the next. -/
def Obligations.PeriphEventCopiesThePacket : Prop :=
  (∀ s, ∃ t, exec .periphEvent s = .next t ∧ sameButDisp s t ∧
    t.disp = { s.disp with fsm := .sendData, txPkt := (s.input.periph s.disp.evtId.toNat).pkt }) ∧
  ∀ s t, s.disp.fsm = .periphEvent → step s = .next t →
    t.disp.fsm = .sendData ∧ (∀ i, t.ack i = false) ∧
    (s.slots.canSend s.disp.evtId.toNat = true → s.ack s.disp.evtId.toNat = true)

/-- R167: SENDING completes in every state: the rising chip-select restores the header, drops `dir` and leads to IDLE. -/
def Obligations.SendingEndsTheEvent : Prop :=
  ∀ s,
    (s.csRise = true → ∃ t, exec .sending s = .next t ∧ sameButDisp s t ∧
      t.disp = { s.disp with fsm := .idle, dir := false, txPkt := t.disp.txPkt } ∧
      t.disp.txPkt.extractLsb' 120 8 = 0xF0 ∧ t.disp.txPkt.extractLsb' 0 120 = s.disp.txPkt.extractLsb' 0 120) ∧
    (s.csRise = false → exec .sending s = .next s)

/-- 30_encoding.md section 1: the three header operations and the trailer operation complete in every state: they write the
header byte, or the two trailer fields, and nothing else. That these writes are their effect is the model's reading (log
entry 9). -/
def Obligations.WireFormatOperationsWriteTheirFields : Prop :=
  ∀ s bc id flags,
    (∃ t, exec .hdrOkToSend s = .next t ∧ sameButDisp s t ∧ t.disp = { s.disp with txPkt := t.disp.txPkt } ∧
      t.disp.txPkt.extractLsb' 120 8 = 0b11110000 ∧
      t.disp.txPkt.extractLsb' 0 120 = s.disp.txPkt.extractLsb' 0 120) ∧
    (∃ t, exec .hdrNotReady s = .next t ∧ sameButDisp s t ∧ t.disp = { s.disp with txPkt := t.disp.txPkt } ∧
      t.disp.txPkt.extractLsb' 120 8 = 0b11111111 ∧
      t.disp.txPkt.extractLsb' 0 120 = s.disp.txPkt.extractLsb' 0 120) ∧
    (∃ t, exec (.hdrEvent bc id) s = .next t ∧ sameButDisp s t ∧ t.disp = { s.disp with txPkt := t.disp.txPkt } ∧
      t.disp.txPkt.extractLsb' 124 4 = bc ∧ t.disp.txPkt.extractLsb' 120 4 = id ∧
      t.disp.txPkt.extractLsb' 0 120 = s.disp.txPkt.extractLsb' 0 120) ∧
    ∃ t, exec (.inbTrailer id flags) s = .next t ∧ sameButDisp s t ∧
      t.disp = { s.disp with destId := id, rxFlags := flags }

/-- 30_encoding.md R83: the tick that ends a host write latches both trailer fields, plain 4-bit slices of `rx_buf`; the
byte on top of `rx_buf` decodes to the trailer operation with these fields. -/
def Obligations.TrailerFieldsAreLatched : Prop :=
  ∀ s t, s.disp.fsm = .receiving → s.csRise = true → step s = .next t →
    t.disp.destId = s.rx.buf.extractLsb' 124 4 ∧ t.disp.rxFlags = s.rx.buf.extractLsb' 120 4 ∧
    decode .inboundTrailer [s.rx.buf.extractLsb' 120 8] = .ok (.inbTrailer t.disp.destId t.disp.rxFlags)

/-- R89, R93: the event header's value, and when it collides with a reserved value: never `0xFF` for a registrable id,
and `0xF0` exactly for id 0 with a byteCount whose low nibble is 15; a legal byteCount reads back as that id's event. -/
def Obligations.EventHeaderNeverReadsAsBusy : Prop :=
  ∀ (bc : ByteCount) (i : PeriphId),
    (eventHeader bc i).toNat = bc.toNat % 16 * 16 + i.toNat ∧
    (i ≠ 15 → eventHeader bc i ≠ 0xFF) ∧
    (eventHeader bc i = 0xF0 ↔ i = 0 ∧ bc.toNat % 16 = 15) ∧
    (legalByteCount bc → classifyHeader (eventHeader bc i) = .event i (bc.setWidth 4))

/-! ## The Dispatcher as a whole -/

/-- The transition table's control flow (43_dispatcher.md section 2): the state after every tick. -/
def Obligations.ControlFlowIsTheTable : Prop :=
  ∀ s t, step s = .next t →
    t.disp.fsm =
      match s.disp.fsm with
      | .start => .idle
      | .idle =>
        if s.csFall then .okToSend
        else if (List.range 15).any (fun i => s.slots.canSend i && (s.input.periph i).valid) then .sendEvent
        else .idle
      | .okToSend => if s.csRise then .waitStmData else .okToSend
      | .waitStmData => if s.csFall then .receiving else .waitStmData
      | .receiving => if s.csRise then .receiveHandshake else .receiving
      | .receiveHandshake => if s.readyEff then .waitForTxn else .receiveHandshake
      | .waitForTxn => if s.csRise then .idle else .waitForTxn
      | .sendEvent => if s.csFall then .sendingEvent else .sendEvent
      | .sendingEvent => if s.csRise then .periphEvent else .sendingEvent
      | .periphEvent => .sendData
      | .sendData => if s.csFall then .sending else .sendData
      | .sending => if s.csRise then .idle else .sending

/-- 10_state.md section 7: each status bit changes only where its row says so. -/
def Obligations.StatusBitsChangeOnlyWhereStated : Prop :=
  ∀ s t, step s = .next t →
    (s.disp.dir = false → t.disp.dir = true → s.disp.fsm = .idle ∧ s.csFall = false ∧ ∃ i, s.requests i = true) ∧
    (s.disp.dir = true → t.disp.dir = false → s.disp.fsm = .sending ∧ s.csRise = true) ∧
    (s.disp.oe = false → t.disp.oe = true → s.disp.fsm = .receiving ∧ s.csRise = true) ∧
    (s.disp.oe = true → t.disp.oe = false → s.disp.fsm = .waitStmData) ∧
    (s.disp.rxValid = false → t.disp.rxValid = true → s.disp.fsm = .receiving ∧ s.csRise = true) ∧
    (s.disp.rxValid = true → t.disp.rxValid = false → s.disp.fsm = .receiveHandshake ∧ s.readyEff = true)

/-- 60_exceptions.md section 2: the poll grants the least requesting id, and none only if none requests; only a registered
id below `NUM_PERIPHS` requests. -/
def Obligations.PollFindsTheLeastRequester : Prop :=
  ∀ s : State,
    (∀ i, s.poll = some i ↔ s.requests i = true ∧ ∀ j, j < i → s.requests j = false) ∧
    (s.poll = none ↔ ∀ i, s.requests i = false) ∧
    ∀ i, s.requests i = true → i < 15 ∧ i < s.slots.numPeriphs.val ∧ s.slots.registered i = true

/-- 43_dispatcher.md sections 2 and 3: the Dispatcher's next registers do not depend on the clock, on the data lines, on
the Tx Codec, nor on the raw chip-select of the tick. -/
def Obligations.DispatcherIgnoresClockAndData : Prop :=
  ∀ s s' t t', s.disp = s'.disp → s.slots = s'.slots → s.rx = s'.rx → s.cond.csPrev = s'.cond.csPrev →
    s.csS = s'.csS → s.input.periphs = s'.input.periphs → s.input.unregReady = s'.input.unregReady →
    step s = .next t → step s' = .next t' → t.disp = t'.disp

/-- 10_state.md section 9: an input of a slot that lacks the capability is never read. Two ticks whose inputs agree but
for such inputs, and but for the tick number, give the same registers. -/
def Obligations.AbsentInputsAreNeverRead : Prop :=
  ∀ s s' t t', s.StatusInv → s.cond = s'.cond → s.rx = s'.rx → s.tx = s'.tx → s.disp = s'.disp → s.slots = s'.slots →
    s.input.csRaw = s'.input.csRaw → s.input.clkRaw = s'.input.clkRaw → s.input.dqIn = s'.input.dqIn →
    s.input.unregReady = s'.input.unregReady →
    (∀ i, s.slots.canSend i = true →
      (s.input.periph i).valid = (s'.input.periph i).valid ∧ (s.input.periph i).pkt = (s'.input.periph i).pkt ∧
        (s.input.periph i).bc = (s'.input.periph i).bc) →
    (∀ i, s.slots.canReceive i = true → (s.input.periph i).ready = (s'.input.periph i).ready) →
    step s = .next t → step s' = .next t' →
    t.cond = t'.cond ∧ t.rx = t'.rx ∧ t.tx = t'.tx ∧ t.disp = t'.disp

/-- 44_peripheral_interface.md section 2: at most one `valid[i]` and at most one `ack[i]` in a tick, never both, and an
ack is followed by a tick without any. -/
def Obligations.StrobesAreExclusive : Prop :=
  ∀ s i j,
    (s.valid i = true → s.valid j = true → i = j) ∧ (s.ack i = true → s.ack j = true → i = j) ∧
    (s.StatusInv → s.valid i = true → s.ack j = false) ∧
    ∀ t, step s = .next t → s.ack i = true → t.ack j = false

/-! ## Runs -/

/-- 43_dispatcher.md R161: while the awaited ready stays away, every Dispatcher register holds, however many ticks and
transactions pass. -/
def Obligations.UnreadyPeripheralStallsTheEngine : Prop :=
  ∀ s vs t, s.disp.fsm = .receiveHandshake → Path s vs t → (∀ v ∈ vs, v.readyEff = false) → t.disp = s.disp

/-- 44_peripheral_interface.md section 2: packet, byteCount, flags and destination do not change until the next host
write ends. -/
def Obligations.PresentedPacketIsStable : Prop :=
  ∀ s vs t, Path s vs t → (∀ v ∈ vs, ¬(v.disp.fsm = .receiving ∧ v.csRise = true)) →
    t.pktOut = s.pktOut ∧ t.bcOut = s.bcOut ∧ t.flagsOut = s.flagsOut ∧ t.disp.destId = s.disp.destId

/-- 60_exceptions.md section 2: an event once granted runs to its end: until the rising chip-select in SENDING the engine
stays in the outbound half with `dir` and `evt_id` as they are, and latches nothing else. -/
def Obligations.GrantedEventRunsToItsEnd : Prop :=
  ∀ s vs t, s.disp.fsm.outbound = true → Path s vs t →
    (∀ v ∈ vs, ¬(v.disp.fsm = .sending ∧ v.csRise = true)) →
    t.disp.fsm.outbound = true ∧ t.disp.evtId = s.disp.evtId ∧ t.disp.dir = s.disp.dir ∧
    t.disp.rxValid = s.disp.rxValid ∧ t.disp.oe = s.disp.oe

/-- 43_dispatcher.md R154: with no peripheral valid and chip-select high the engine stays in IDLE, whatever the clock
does. -/
def Obligations.IdleEngineStaysAtRest : Prop :=
  ∀ s vs t, s.atRest → s.cond.csFf0 = true → Path s vs t →
    (∀ v ∈ vs, v.input.csRaw = true ∧ ∀ i, v.requests i = false) →
    t.disp = s.disp ∧ t.rx = ⟨0, 0⟩ ∧ t.tx = ⟨0, 0⟩ ∧ t.csS = true

/-- 45_host_protocol.md section 1: in the tick in which a chip-select fall is seen, the header loaded for the host agrees
with what the Dispatcher takes the transaction as. -/
def Obligations.HeaderReadAgreesWithTheBranch : Prop :=
  ∀ u s, u.StatusInv → u.csFall = true → step u = .next s →
    topByte s.tx.sh = u.hdr ∧
    (transactionKind u.disp.fsm = .writeProbe → s.disp.fsm = .okToSend ∧ classifyHeader (topByte s.tx.sh) = .okToSend) ∧
    (transactionKind u.disp.fsm = .realWrite → s.disp.fsm = .receiving ∧ s.dqOe = false) ∧
    (transactionKind u.disp.fsm = .followUpProbe → classifyHeader (topByte s.tx.sh) = .notReady) ∧
    (transactionKind u.disp.fsm = .dummyRead →
      s.disp.fsm = .sendingEvent ∧ (topByte s.tx.sh).extractLsb' 0 4 = u.disp.evtId) ∧
    (transactionKind u.disp.fsm = .realRead → s.disp.fsm = .sending ∧ s.tx.sh = u.disp.txPkt) ∧
    (transactionKind u.disp.fsm = .ignored → u.disp.fsm ≠ .start → u.disp.fsm ≠ .periphEvent →
      s.disp.fsm = u.disp.fsm)

/-- 44_peripheral_interface.md R201: what the addressed peripheral is presented after a host write of `n` symbols, `n`
even and 2 to 32: the write begins with a chip-select fall seen in WAIT_STM_DATA and ends with the first tick in which
the settled chip-select is high again. -/
def Obligations.HostWriteIsDelivered : Prop :=
  ∀ s vs t d, s.LineInv → s.disp.fsm = .waitStmData → s.csFall = true → Path s vs t →
    (∀ v ∈ vs, v.csS = false) → t.csS = true → step t = .next d → legalWriteLength (sampled vs).length →
    s.slots.canReceive d.disp.destId.toNat = true →
    let qs := sampled vs
    let n := qs.length
    qs[n - 1]? = some d.disp.destId ∧ d.valid d.disp.destId.toNat = true ∧
    qs[n - 2]? = some d.flagsOut ∧ d.bcOut.toNat = n * 4 / 8 - 1 ∧
    d.pktOut.extractLsb' 124 4 = d.disp.destId ∧ d.pktOut.extractLsb' 120 4 = d.flagsOut ∧
    (∀ j, 2 ≤ j → j < n → qs[n - 1 - j]? = some (symbolFromTop d.pktOut j)) ∧
    (∀ j, n ≤ j → symbolFromTop d.pktOut j = 0) ∧
    d.disp.fsm = .receiveHandshake ∧ d.hdr = 0xFF ∧ d.dqOe = true

/-- 70_reset_and_hazards.md section 2: the bus turnaround after the probe: output-enable is still set in the first tick of
WAIT_STM_DATA and dropped from the second on. -/
def Obligations.BusTurnaroundTakesOneTick : Prop :=
  ∀ s v t, s.StatusInv → s.disp.fsm = .okToSend → s.csRise = true → Path s [s, v] t →
    v.disp.fsm = .waitStmData ∧ v.dqOe = true ∧ v.hostMayDrive = false ∧ t.dqOe = false ∧ t.hostMayDrive = true

/-- 70_reset_and_hazards.md section 2: a real read whose chip-select fall meets PERIPH_EVENT is ignored by the Dispatcher
and sends the stale buffer. -/
def Obligations.TooShortGapSendsStaleBytes : Prop :=
  ∀ s v t, s.disp.fsm = .sendingEvent → s.csRise = true → Path s [s, v] t → v.csFall = true →
    v.disp.fsm = .periphEvent ∧ t.disp.fsm = .sendData ∧ t.tx.sh = s.disp.txPkt ∧
    t.disp.txPkt = (v.input.periph s.disp.evtId.toNat).pkt

/-- 44_peripheral_interface.md section 1: after a sequence of register calls an id has the capabilities of its last call,
or those the table had; an id not below `NUM_PERIPHS` refuses the table. -/
def Obligations.LastRegistrationWins : Prop :=
  ∀ (t : SlotTable) (calls : List (Nat × Slot)),
    (∀ t', t.registerAll calls = some t' → t'.numPeriphs = t.numPeriphs ∧
      ∀ id, t'.slot id = ((calls.reverse.find? fun c => c.1 == id).map Prod.snd).or (t.slot id)) ∧
    (t.registerAll calls = none ↔ ∃ c ∈ calls, t.numPeriphs.val ≤ c.1)

/-- 45_host_protocol.md section 2 with 42_tx_codec.md: what a host reads with the control lines of `RD(n)`, started with
them at rest, whatever the data lines and the peripherals show meanwhile: the packet buffer as it was in the `cs_fall` tick, from the top; a sample while the engine does not drive is none.
Two samples make a byte, the first two of them the header. -/
def Obligations.ReadsReturnTheSnapshotFromTheTop : Prop :=
  ∀ s n vs t u, s.cond = ⟨true, true, true, false, false, false⟩ → Path s vs t →
    vs.map (fun v => (v.input.csRaw, v.input.clkRaw)) = (rd n).map (fun x => (x.csRaw, x.clkRaw)) →
    vs[2]? = some u →
    u.csFall = true ∧
    (∀ k v, k < n → vs[4 + 8 * k]? = some v →
      readSample vs k = if v.dqOe then some (symbolFromTop u.disp.txPkt k) else none) ∧
    ((∀ v ∈ vs, v.dqOe = true) →
      (∀ k, 2 * k + 1 < n → readByte vs k = some (byteFromTop u.disp.txPkt k)) ∧
      (2 ≤ n → probeByte vs = some u.hdr))
end

