-- ==== Sys2Proof/Laws/Flags.lean ====
section
/-! SUPPORT. Laws/Flags.lean: what the derived signals and the codecs' decode say of each other. -/

namespace Sys2Proof
namespace Machine

theorem csFall_iff (s : State) : s.csFall = true ↔ s.cond.csPrev = true ∧ s.csS = false := by
  simp [State.csFall]

theorem csRise_iff (s : State) : s.csRise = true ↔ s.cond.csPrev = false ∧ s.csS = true := by
  simp [State.csRise]

theorem clkRise_iff (s : State) : s.clkRise = true ↔ s.cond.clkPrev = false ∧ s.clkS = true := by
  simp [State.clkRise]

theorem clkFall_iff (s : State) : s.clkFall = true ↔ s.cond.clkPrev = true ∧ s.clkS = false := by
  simp [State.clkFall]

/-- The Rx operation of a tick, by chip-select and clock edge (R121 to R123). -/
theorem rxOp_controlVec (s : State) :
    rxOp s.controlVec = if s.csS then .rxClear else if s.clkRise then .rxShift else .rxHold := by
  unfold State.controlVec State.clkRise
  cases s.cond.csPrev <;> cases s.csS <;> cases s.cond.clkPrev <;> cases s.clkS <;> rfl

/-- The Tx operation of a tick, by chip-select, its history and clock edge (R136 to R139). -/
theorem txOp_controlVec (s : State) :
    txOp s.controlVec =
      if s.csS then .txClear else if s.cond.csPrev then .txLoad else if s.clkFall then .txShift else .txHold := by
  unfold State.controlVec State.clkFall
  cases s.cond.csPrev <;> cases s.csS <;> cases s.cond.clkPrev <;> cases s.clkS <;> rfl

/-- A slot's id is below `NUM_PERIPHS`, so below 15 (R40). -/
theorem slot_isSome_lt (t : SlotTable) (i : Nat) (h : (t.slot i).isSome = true) : i < t.numPeriphs.val ∧ i < 15 := by
  unfold SlotTable.slot at h
  split at h
  · exact ⟨‹_›, by have := t.numPeriphs.isLt; omega⟩
  · simp at h

theorem canSend_lt (t : SlotTable) (i : Nat) (h : t.canSend i = true) : i < t.numPeriphs.val ∧ i < 15 := by
  apply slot_isSome_lt t i
  unfold SlotTable.canSend at h
  cases hs : t.slot i with
  | none => simp [hs] at h
  | some x => rfl

/-- A requesting id is below 15 (R153). -/
theorem requests_lt (s : State) (i : Nat) (h : s.requests i = true) : i < 15 := by
  have : s.slots.canSend i = true := by
    simp only [State.requests, Bool.and_eq_true] at h
    exact h.1
  exact (canSend_lt _ _ this).2

end Machine
end Sys2Proof
end

