-- ==== Sys2Proof/Laws/Packet.lean ====
section
/-! SUPPORT. Laws/Packet.lean: the fields of packets after each operation on them. -/

namespace Sys2Proof
namespace Machine

/-- The default parameters give the widths of Word.lean (R7, R8). -/
theorem default_widths : Config.w = 128 ∧ Config.nSym = 32 ∧ 2 ^ 6 > Config.nSym ∧ 2 ^ 5 > Config.pktSize := by decide

@[simp] theorem topByte_withTopByte (p : Packet) (b : WireByte) : topByte (withTopByte p b) = b := by
  apply BitVec.eq_of_getLsbD_eq
  intro i hi
  simp only [topByte, withTopByte, belowTop, BitVec.getLsbD_extractLsb', BitVec.getLsbD_append, hi]
  simp

@[simp] theorem belowTop_withTopByte (p : Packet) (b : WireByte) : belowTop (withTopByte p b) = belowTop p := by
  apply BitVec.eq_of_getLsbD_eq
  intro i hi
  simp only [withTopByte, belowTop, BitVec.getLsbD_extractLsb', BitVec.getLsbD_append]
  simp [hi]

/-- The header formula puts the low nibble of the byteCount above the id (R89). -/
theorem eventHeader_eq_append (bc : ByteCount) (i : PeriphId) : eventHeader bc i = bc.setWidth 4 ++ i := by
  revert bc i; decide

/-- The new symbol is on top. -/
theorem shiftIn_top (p : Packet) (q : Symbol) : (shiftIn p q).extractLsb' 124 4 = q := by
  apply BitVec.eq_of_getLsbD_eq
  intro i hi
  simp only [shiftIn, BitVec.getLsbD_extractLsb', BitVec.getLsbD_append, hi]
  simp

/-- The earlier symbols have moved down by one. -/
theorem shiftIn_rest (p : Packet) (q : Symbol) : (shiftIn p q).extractLsb' 0 124 = p.extractLsb' 4 124 := by
  apply BitVec.eq_of_getLsbD_eq
  intro i hi
  simp only [shiftIn, BitVec.getLsbD_extractLsb', BitVec.getLsbD_append]
  simp [hi]

/-- Shifting out is a shift left by one symbol. -/
theorem shiftOut_eq_shiftLeft (p : Packet) : shiftOut p = p <<< 4 := by
  apply BitVec.eq_of_getLsbD_eq
  intro i hi
  simp only [shiftOut, BitVec.getLsbD_append, BitVec.getLsbD_extractLsb', BitVec.getLsbD_shiftLeft]
  by_cases h : i < 4
  · simp [h]
  · have : i - 4 < 124 := by omega
    simp [h, hi, this]

/-- There is no symbol 32 or beyond. -/
theorem symbolFromTop_beyond (p : Packet) (k : Nat) (h : 32 ≤ k) : symbolFromTop p k = 0 := by
  apply BitVec.eq_of_getLsbD_eq
  intro i hi
  simp only [symbolFromTop, BitVec.getLsbD_extractLsb', BitVec.getLsbD_shiftLeft]
  have : 124 + i < 4 * k := by omega
  simp [this]

/-- A byte is its two symbols, the upper one first (R62). -/
theorem byteFromTop_eq_symbols (p : Packet) (k : Nat) :
    byteFromTop p k = symbolFromTop p (2 * k) ++ symbolFromTop p (2 * k + 1) := by
  apply BitVec.eq_of_getLsbD_eq
  intro i hi
  rw [BitVec.getLsbD_append]
  simp only [symbolFromTop, byteFromTop, topByte, BitVec.getLsbD_extractLsb', BitVec.getLsbD_shiftLeft]
  by_cases h : i < 4
  · have h1 : 124 + i < 128 := by omega
    have h2 : 120 + i < 128 := by omega
    have h3 : 124 + i - 4 * (2 * k + 1) = 120 + i - 8 * k := by omega
    have h4 : (124 + i < 4 * (2 * k + 1)) = (120 + i < 8 * k) := by apply propext; omega
    simp [h, hi, h1, h2, h3, h4]
  · have h1 : 120 + i < 128 := by omega
    have h2 : 124 + (i - 4) = 120 + i := by omega
    have h3 : i - 4 < 4 := by omega
    have h4 : 4 * (2 * k) = 8 * k := by omega
    simp [h, hi, h1, h2, h3, h4]

end Machine
end Sys2Proof
end

