-- ==== Sys2Proof/Laws/PerInstr.lean ====
section
/-! SUPPORT. Laws/PerInstr.lean: the family WordMatchesRow: the bytes the encoder writes for an operation fit the "mask"
and "match" of its row in spec/opcode_table.json. One lemma per constructor. -/

namespace Sys2Proof
namespace Laws

/-- Every byte of the operation's word, masked, is the row's match. -/
def WordMatchesRow.Statement (i : Instr) : Prop :=
  ∀ b ∈ encode i, b &&& (tableMaskMatch i).1 = (tableMaskMatch i).2

theorem WordMatchesRow.start : WordMatchesRow.Statement .start := by
  simp [WordMatchesRow.Statement, encode, tableMaskMatch]
theorem WordMatchesRow.idle : WordMatchesRow.Statement .idle := by
  simp [WordMatchesRow.Statement, encode, tableMaskMatch]
theorem WordMatchesRow.okToSend : WordMatchesRow.Statement .okToSend := by
  simp [WordMatchesRow.Statement, encode, tableMaskMatch]
theorem WordMatchesRow.waitStmData : WordMatchesRow.Statement .waitStmData := by
  simp [WordMatchesRow.Statement, encode, tableMaskMatch]
theorem WordMatchesRow.receiving : WordMatchesRow.Statement .receiving := by
  simp [WordMatchesRow.Statement, encode, tableMaskMatch]
theorem WordMatchesRow.receiveHandshake : WordMatchesRow.Statement .receiveHandshake := by
  simp [WordMatchesRow.Statement, encode, tableMaskMatch]
theorem WordMatchesRow.waitForTxn : WordMatchesRow.Statement .waitForTxn := by
  simp [WordMatchesRow.Statement, encode, tableMaskMatch]
theorem WordMatchesRow.sendEvent : WordMatchesRow.Statement .sendEvent := by
  simp [WordMatchesRow.Statement, encode, tableMaskMatch]
theorem WordMatchesRow.sendingEvent : WordMatchesRow.Statement .sendingEvent := by
  simp [WordMatchesRow.Statement, encode, tableMaskMatch]
theorem WordMatchesRow.periphEvent : WordMatchesRow.Statement .periphEvent := by
  simp [WordMatchesRow.Statement, encode, tableMaskMatch]
theorem WordMatchesRow.sendData : WordMatchesRow.Statement .sendData := by
  simp [WordMatchesRow.Statement, encode, tableMaskMatch]
theorem WordMatchesRow.sending : WordMatchesRow.Statement .sending := by
  simp [WordMatchesRow.Statement, encode, tableMaskMatch]
theorem WordMatchesRow.rxClear : WordMatchesRow.Statement .rxClear := by
  simp [WordMatchesRow.Statement, encode, tableMaskMatch]
theorem WordMatchesRow.rxShift : WordMatchesRow.Statement .rxShift := by
  simp [WordMatchesRow.Statement, encode, tableMaskMatch]
theorem WordMatchesRow.rxHold : WordMatchesRow.Statement .rxHold := by
  simp [WordMatchesRow.Statement, encode, tableMaskMatch]
theorem WordMatchesRow.txClear : WordMatchesRow.Statement .txClear := by
  simp [WordMatchesRow.Statement, encode, tableMaskMatch]
theorem WordMatchesRow.txLoad : WordMatchesRow.Statement .txLoad := by
  simp [WordMatchesRow.Statement, encode, tableMaskMatch]
theorem WordMatchesRow.txShift : WordMatchesRow.Statement .txShift := by
  simp [WordMatchesRow.Statement, encode, tableMaskMatch]
theorem WordMatchesRow.txHold : WordMatchesRow.Statement .txHold := by
  simp [WordMatchesRow.Statement, encode, tableMaskMatch]
theorem WordMatchesRow.cond : WordMatchesRow.Statement .cond := by
  simp [WordMatchesRow.Statement, encode, tableMaskMatch]
theorem WordMatchesRow.hdrOkToSend : WordMatchesRow.Statement .hdrOkToSend := by
  simp [WordMatchesRow.Statement, encode, tableMaskMatch]
theorem WordMatchesRow.hdrNotReady : WordMatchesRow.Statement .hdrNotReady := by
  simp [WordMatchesRow.Statement, encode, tableMaskMatch]
theorem WordMatchesRow.hdrEvent (bc : BitVec 4) (id : PeriphId) : WordMatchesRow.Statement (.hdrEvent bc id) := by
  simp [WordMatchesRow.Statement, encode, tableMaskMatch]
theorem WordMatchesRow.inbTrailer (id : PeriphId) (flags : FlagsField) :
    WordMatchesRow.Statement (.inbTrailer id flags) := by
  simp [WordMatchesRow.Statement, encode, tableMaskMatch]

end Laws
end Sys2Proof
end

