-- ==== Sys2Proof/Laws/State.lean ====
section
/-! SUPPORT. Laws/State.lean: one lemma per field for each register transfer of Ops.lean, so that no proof unfolds a
record update. -/

namespace Sys2Proof
namespace Machine

variable (s : State)

/-! `State.goto` -/

@[simp] theorem goto_cond (f : Fsm) : (s.goto f).cond = s.cond := rfl
@[simp] theorem goto_rx (f : Fsm) : (s.goto f).rx = s.rx := rfl
@[simp] theorem goto_tx (f : Fsm) : (s.goto f).tx = s.tx := rfl
@[simp] theorem goto_slots (f : Fsm) : (s.goto f).slots = s.slots := rfl
@[simp] theorem goto_script (f : Fsm) : (s.goto f).script = s.script := rfl
@[simp] theorem goto_tick (f : Fsm) : (s.goto f).tick = s.tick := rfl
@[simp] theorem goto_fsm (f : Fsm) : (s.goto f).disp.fsm = f := rfl
@[simp] theorem goto_txPkt (f : Fsm) : (s.goto f).disp.txPkt = s.disp.txPkt := rfl
@[simp] theorem goto_rxPkt (f : Fsm) : (s.goto f).disp.rxPkt = s.disp.rxPkt := rfl
@[simp] theorem goto_rxValid (f : Fsm) : (s.goto f).disp.rxValid = s.disp.rxValid := rfl
@[simp] theorem goto_destId (f : Fsm) : (s.goto f).disp.destId = s.disp.destId := rfl
@[simp] theorem goto_rxFlags (f : Fsm) : (s.goto f).disp.rxFlags = s.disp.rxFlags := rfl
@[simp] theorem goto_rxBc (f : Fsm) : (s.goto f).disp.rxBc = s.disp.rxBc := rfl
@[simp] theorem goto_evtId (f : Fsm) : (s.goto f).disp.evtId = s.disp.evtId := rfl
@[simp] theorem goto_dir (f : Fsm) : (s.goto f).disp.dir = s.disp.dir := rfl
@[simp] theorem goto_oe (f : Fsm) : (s.goto f).disp.oe = s.disp.oe := rfl

/-! `State.stageHeader` -/

@[simp] theorem stageHeader_cond (h : WireByte) : (s.stageHeader h).cond = s.cond := rfl
@[simp] theorem stageHeader_rx (h : WireByte) : (s.stageHeader h).rx = s.rx := rfl
@[simp] theorem stageHeader_tx (h : WireByte) : (s.stageHeader h).tx = s.tx := rfl
@[simp] theorem stageHeader_slots (h : WireByte) : (s.stageHeader h).slots = s.slots := rfl
@[simp] theorem stageHeader_script (h : WireByte) : (s.stageHeader h).script = s.script := rfl
@[simp] theorem stageHeader_tick (h : WireByte) : (s.stageHeader h).tick = s.tick := rfl
@[simp] theorem stageHeader_fsm (h : WireByte) : (s.stageHeader h).disp.fsm = s.disp.fsm := rfl
@[simp] theorem stageHeader_txPkt (h : WireByte) : (s.stageHeader h).disp.txPkt = withTopByte s.disp.txPkt h := rfl
@[simp] theorem stageHeader_rxPkt (h : WireByte) : (s.stageHeader h).disp.rxPkt = s.disp.rxPkt := rfl
@[simp] theorem stageHeader_rxValid (h : WireByte) : (s.stageHeader h).disp.rxValid = s.disp.rxValid := rfl
@[simp] theorem stageHeader_destId (h : WireByte) : (s.stageHeader h).disp.destId = s.disp.destId := rfl
@[simp] theorem stageHeader_rxFlags (h : WireByte) : (s.stageHeader h).disp.rxFlags = s.disp.rxFlags := rfl
@[simp] theorem stageHeader_rxBc (h : WireByte) : (s.stageHeader h).disp.rxBc = s.disp.rxBc := rfl
@[simp] theorem stageHeader_evtId (h : WireByte) : (s.stageHeader h).disp.evtId = s.disp.evtId := rfl
@[simp] theorem stageHeader_dir (h : WireByte) : (s.stageHeader h).disp.dir = s.disp.dir := rfl
@[simp] theorem stageHeader_oe (h : WireByte) : (s.stageHeader h).disp.oe = s.disp.oe := rfl

/-! `State.latchTrailer` -/

@[simp] theorem latchTrailer_cond (id : PeriphId) (flags : FlagsField) : (s.latchTrailer id flags).cond = s.cond := rfl
@[simp] theorem latchTrailer_rx (id : PeriphId) (flags : FlagsField) : (s.latchTrailer id flags).rx = s.rx := rfl
@[simp] theorem latchTrailer_tx (id : PeriphId) (flags : FlagsField) : (s.latchTrailer id flags).tx = s.tx := rfl
@[simp] theorem latchTrailer_slots (id : PeriphId) (flags : FlagsField) : (s.latchTrailer id flags).slots = s.slots := rfl
@[simp] theorem latchTrailer_script (id : PeriphId) (flags : FlagsField) : (s.latchTrailer id flags).script = s.script := rfl
@[simp] theorem latchTrailer_tick (id : PeriphId) (flags : FlagsField) : (s.latchTrailer id flags).tick = s.tick := rfl
@[simp] theorem latchTrailer_fsm (id : PeriphId) (flags : FlagsField) : (s.latchTrailer id flags).disp.fsm = s.disp.fsm := rfl
@[simp] theorem latchTrailer_txPkt (id : PeriphId) (flags : FlagsField) : (s.latchTrailer id flags).disp.txPkt = s.disp.txPkt := rfl
@[simp] theorem latchTrailer_rxPkt (id : PeriphId) (flags : FlagsField) : (s.latchTrailer id flags).disp.rxPkt = s.disp.rxPkt := rfl
@[simp] theorem latchTrailer_rxValid (id : PeriphId) (flags : FlagsField) : (s.latchTrailer id flags).disp.rxValid = s.disp.rxValid := rfl
@[simp] theorem latchTrailer_destId (id : PeriphId) (flags : FlagsField) : (s.latchTrailer id flags).disp.destId = id := rfl
@[simp] theorem latchTrailer_rxFlags (id : PeriphId) (flags : FlagsField) : (s.latchTrailer id flags).disp.rxFlags = flags := rfl
@[simp] theorem latchTrailer_rxBc (id : PeriphId) (flags : FlagsField) : (s.latchTrailer id flags).disp.rxBc = s.disp.rxBc := rfl
@[simp] theorem latchTrailer_evtId (id : PeriphId) (flags : FlagsField) : (s.latchTrailer id flags).disp.evtId = s.disp.evtId := rfl
@[simp] theorem latchTrailer_dir (id : PeriphId) (flags : FlagsField) : (s.latchTrailer id flags).disp.dir = s.disp.dir := rfl
@[simp] theorem latchTrailer_oe (id : PeriphId) (flags : FlagsField) : (s.latchTrailer id flags).disp.oe = s.disp.oe := rfl

/-! `State.setOe` -/

@[simp] theorem setOe_cond (b : Bool) : (s.setOe b).cond = s.cond := rfl
@[simp] theorem setOe_rx (b : Bool) : (s.setOe b).rx = s.rx := rfl
@[simp] theorem setOe_tx (b : Bool) : (s.setOe b).tx = s.tx := rfl
@[simp] theorem setOe_slots (b : Bool) : (s.setOe b).slots = s.slots := rfl
@[simp] theorem setOe_script (b : Bool) : (s.setOe b).script = s.script := rfl
@[simp] theorem setOe_tick (b : Bool) : (s.setOe b).tick = s.tick := rfl
@[simp] theorem setOe_fsm (b : Bool) : (s.setOe b).disp.fsm = s.disp.fsm := rfl
@[simp] theorem setOe_txPkt (b : Bool) : (s.setOe b).disp.txPkt = s.disp.txPkt := rfl
@[simp] theorem setOe_rxPkt (b : Bool) : (s.setOe b).disp.rxPkt = s.disp.rxPkt := rfl
@[simp] theorem setOe_rxValid (b : Bool) : (s.setOe b).disp.rxValid = s.disp.rxValid := rfl
@[simp] theorem setOe_destId (b : Bool) : (s.setOe b).disp.destId = s.disp.destId := rfl
@[simp] theorem setOe_rxFlags (b : Bool) : (s.setOe b).disp.rxFlags = s.disp.rxFlags := rfl
@[simp] theorem setOe_rxBc (b : Bool) : (s.setOe b).disp.rxBc = s.disp.rxBc := rfl
@[simp] theorem setOe_evtId (b : Bool) : (s.setOe b).disp.evtId = s.disp.evtId := rfl
@[simp] theorem setOe_dir (b : Bool) : (s.setOe b).disp.dir = s.disp.dir := rfl
@[simp] theorem setOe_oe (b : Bool) : (s.setOe b).disp.oe = b := rfl

/-! `State.setDir` -/

@[simp] theorem setDir_cond (b : Bool) : (s.setDir b).cond = s.cond := rfl
@[simp] theorem setDir_rx (b : Bool) : (s.setDir b).rx = s.rx := rfl
@[simp] theorem setDir_tx (b : Bool) : (s.setDir b).tx = s.tx := rfl
@[simp] theorem setDir_slots (b : Bool) : (s.setDir b).slots = s.slots := rfl
@[simp] theorem setDir_script (b : Bool) : (s.setDir b).script = s.script := rfl
@[simp] theorem setDir_tick (b : Bool) : (s.setDir b).tick = s.tick := rfl
@[simp] theorem setDir_fsm (b : Bool) : (s.setDir b).disp.fsm = s.disp.fsm := rfl
@[simp] theorem setDir_txPkt (b : Bool) : (s.setDir b).disp.txPkt = s.disp.txPkt := rfl
@[simp] theorem setDir_rxPkt (b : Bool) : (s.setDir b).disp.rxPkt = s.disp.rxPkt := rfl
@[simp] theorem setDir_rxValid (b : Bool) : (s.setDir b).disp.rxValid = s.disp.rxValid := rfl
@[simp] theorem setDir_destId (b : Bool) : (s.setDir b).disp.destId = s.disp.destId := rfl
@[simp] theorem setDir_rxFlags (b : Bool) : (s.setDir b).disp.rxFlags = s.disp.rxFlags := rfl
@[simp] theorem setDir_rxBc (b : Bool) : (s.setDir b).disp.rxBc = s.disp.rxBc := rfl
@[simp] theorem setDir_evtId (b : Bool) : (s.setDir b).disp.evtId = s.disp.evtId := rfl
@[simp] theorem setDir_dir (b : Bool) : (s.setDir b).disp.dir = b := rfl
@[simp] theorem setDir_oe (b : Bool) : (s.setDir b).disp.oe = s.disp.oe := rfl

/-! `State.setRxValid` -/

@[simp] theorem setRxValid_cond (b : Bool) : (s.setRxValid b).cond = s.cond := rfl
@[simp] theorem setRxValid_rx (b : Bool) : (s.setRxValid b).rx = s.rx := rfl
@[simp] theorem setRxValid_tx (b : Bool) : (s.setRxValid b).tx = s.tx := rfl
@[simp] theorem setRxValid_slots (b : Bool) : (s.setRxValid b).slots = s.slots := rfl
@[simp] theorem setRxValid_script (b : Bool) : (s.setRxValid b).script = s.script := rfl
@[simp] theorem setRxValid_tick (b : Bool) : (s.setRxValid b).tick = s.tick := rfl
@[simp] theorem setRxValid_fsm (b : Bool) : (s.setRxValid b).disp.fsm = s.disp.fsm := rfl
@[simp] theorem setRxValid_txPkt (b : Bool) : (s.setRxValid b).disp.txPkt = s.disp.txPkt := rfl
@[simp] theorem setRxValid_rxPkt (b : Bool) : (s.setRxValid b).disp.rxPkt = s.disp.rxPkt := rfl
@[simp] theorem setRxValid_rxValid (b : Bool) : (s.setRxValid b).disp.rxValid = b := rfl
@[simp] theorem setRxValid_destId (b : Bool) : (s.setRxValid b).disp.destId = s.disp.destId := rfl
@[simp] theorem setRxValid_rxFlags (b : Bool) : (s.setRxValid b).disp.rxFlags = s.disp.rxFlags := rfl
@[simp] theorem setRxValid_rxBc (b : Bool) : (s.setRxValid b).disp.rxBc = s.disp.rxBc := rfl
@[simp] theorem setRxValid_evtId (b : Bool) : (s.setRxValid b).disp.evtId = s.disp.evtId := rfl
@[simp] theorem setRxValid_dir (b : Bool) : (s.setRxValid b).disp.dir = s.disp.dir := rfl
@[simp] theorem setRxValid_oe (b : Bool) : (s.setRxValid b).disp.oe = s.disp.oe := rfl

/-! `State.snapshot` -/

@[simp] theorem snapshot_cond : (s.snapshot).cond = s.cond := rfl
@[simp] theorem snapshot_rx : (s.snapshot).rx = s.rx := rfl
@[simp] theorem snapshot_tx : (s.snapshot).tx = s.tx := rfl
@[simp] theorem snapshot_slots : (s.snapshot).slots = s.slots := rfl
@[simp] theorem snapshot_script : (s.snapshot).script = s.script := rfl
@[simp] theorem snapshot_tick : (s.snapshot).tick = s.tick := rfl
@[simp] theorem snapshot_fsm : (s.snapshot).disp.fsm = s.disp.fsm := rfl
@[simp] theorem snapshot_txPkt : (s.snapshot).disp.txPkt = s.disp.txPkt := rfl
@[simp] theorem snapshot_rxPkt : (s.snapshot).disp.rxPkt = s.rx.buf := rfl
@[simp] theorem snapshot_rxValid : (s.snapshot).disp.rxValid = s.disp.rxValid := rfl
@[simp] theorem snapshot_destId : (s.snapshot).disp.destId = s.disp.destId := rfl
@[simp] theorem snapshot_rxFlags : (s.snapshot).disp.rxFlags = s.disp.rxFlags := rfl
@[simp] theorem snapshot_rxBc : (s.snapshot).disp.rxBc = inboundByteCount s.rx.cnt := rfl
@[simp] theorem snapshot_evtId : (s.snapshot).disp.evtId = s.disp.evtId := rfl
@[simp] theorem snapshot_dir : (s.snapshot).disp.dir = s.disp.dir := rfl
@[simp] theorem snapshot_oe : (s.snapshot).disp.oe = s.disp.oe := rfl

/-! `State.setTxPkt` -/

@[simp] theorem setTxPkt_cond (p : Packet) : (s.setTxPkt p).cond = s.cond := rfl
@[simp] theorem setTxPkt_rx (p : Packet) : (s.setTxPkt p).rx = s.rx := rfl
@[simp] theorem setTxPkt_tx (p : Packet) : (s.setTxPkt p).tx = s.tx := rfl
@[simp] theorem setTxPkt_slots (p : Packet) : (s.setTxPkt p).slots = s.slots := rfl
@[simp] theorem setTxPkt_script (p : Packet) : (s.setTxPkt p).script = s.script := rfl
@[simp] theorem setTxPkt_tick (p : Packet) : (s.setTxPkt p).tick = s.tick := rfl
@[simp] theorem setTxPkt_fsm (p : Packet) : (s.setTxPkt p).disp.fsm = s.disp.fsm := rfl
@[simp] theorem setTxPkt_txPkt (p : Packet) : (s.setTxPkt p).disp.txPkt = p := rfl
@[simp] theorem setTxPkt_rxPkt (p : Packet) : (s.setTxPkt p).disp.rxPkt = s.disp.rxPkt := rfl
@[simp] theorem setTxPkt_rxValid (p : Packet) : (s.setTxPkt p).disp.rxValid = s.disp.rxValid := rfl
@[simp] theorem setTxPkt_destId (p : Packet) : (s.setTxPkt p).disp.destId = s.disp.destId := rfl
@[simp] theorem setTxPkt_rxFlags (p : Packet) : (s.setTxPkt p).disp.rxFlags = s.disp.rxFlags := rfl
@[simp] theorem setTxPkt_rxBc (p : Packet) : (s.setTxPkt p).disp.rxBc = s.disp.rxBc := rfl
@[simp] theorem setTxPkt_evtId (p : Packet) : (s.setTxPkt p).disp.evtId = s.disp.evtId := rfl
@[simp] theorem setTxPkt_dir (p : Packet) : (s.setTxPkt p).disp.dir = s.disp.dir := rfl
@[simp] theorem setTxPkt_oe (p : Packet) : (s.setTxPkt p).disp.oe = s.disp.oe := rfl

/-! `State.setRx`, `State.setTx` -/

@[simp] theorem setRx_cond (buf : Packet) (cnt : SymCount) : (s.setRx buf cnt).cond = s.cond := rfl
@[simp] theorem setRx_rx (buf : Packet) (cnt : SymCount) : (s.setRx buf cnt).rx = ⟨buf, cnt⟩ := rfl
@[simp] theorem setRx_tx (buf : Packet) (cnt : SymCount) : (s.setRx buf cnt).tx = s.tx := rfl
@[simp] theorem setRx_disp (buf : Packet) (cnt : SymCount) : (s.setRx buf cnt).disp = s.disp := rfl
@[simp] theorem setRx_slots (buf : Packet) (cnt : SymCount) : (s.setRx buf cnt).slots = s.slots := rfl
@[simp] theorem setRx_script (buf : Packet) (cnt : SymCount) : (s.setRx buf cnt).script = s.script := rfl
@[simp] theorem setRx_tick (buf : Packet) (cnt : SymCount) : (s.setRx buf cnt).tick = s.tick := rfl
@[simp] theorem setTx_cond (sh : Packet) (cnt : SymCount) : (s.setTx sh cnt).cond = s.cond := rfl
@[simp] theorem setTx_rx (sh : Packet) (cnt : SymCount) : (s.setTx sh cnt).rx = s.rx := rfl
@[simp] theorem setTx_tx (sh : Packet) (cnt : SymCount) : (s.setTx sh cnt).tx = ⟨sh, cnt⟩ := rfl
@[simp] theorem setTx_disp (sh : Packet) (cnt : SymCount) : (s.setTx sh cnt).disp = s.disp := rfl
@[simp] theorem setTx_slots (sh : Packet) (cnt : SymCount) : (s.setTx sh cnt).slots = s.slots := rfl
@[simp] theorem setTx_script (sh : Packet) (cnt : SymCount) : (s.setTx sh cnt).script = s.script := rfl
@[simp] theorem setTx_tick (sh : Packet) (cnt : SymCount) : (s.setTx sh cnt).tick = s.tick := rfl

/-! `State.join` -/

@[simp] theorem join_cond (a b c d : State) : (s.join a b c d).cond = a.cond := rfl
@[simp] theorem join_rx (a b c d : State) : (s.join a b c d).rx = b.rx := rfl
@[simp] theorem join_tx (a b c d : State) : (s.join a b c d).tx = c.tx := rfl
@[simp] theorem join_disp (a b c d : State) : (s.join a b c d).disp = d.disp := rfl
@[simp] theorem join_slots (a b c d : State) : (s.join a b c d).slots = s.slots := rfl
@[simp] theorem join_script (a b c d : State) : (s.join a b c d).script = s.script.tail := rfl
@[simp] theorem join_tick (a b c d : State) : (s.join a b c d).tick = s.tick + 1 := rfl

/-! `State.withInput`, `State.inFsm` -/

@[simp] theorem withInput_cond (x : TickIn) : (s.withInput x).cond = s.cond := rfl
@[simp] theorem withInput_rx (x : TickIn) : (s.withInput x).rx = s.rx := rfl
@[simp] theorem withInput_tx (x : TickIn) : (s.withInput x).tx = s.tx := rfl
@[simp] theorem withInput_disp (x : TickIn) : (s.withInput x).disp = s.disp := rfl
@[simp] theorem withInput_slots (x : TickIn) : (s.withInput x).slots = s.slots := rfl
@[simp] theorem withInput_script (x : TickIn) : (s.withInput x).script = x :: s.script := rfl
@[simp] theorem withInput_tick (x : TickIn) : (s.withInput x).tick = s.tick := rfl
@[simp] theorem inFsm_cond (f : Fsm) : (s.inFsm f).cond = s.cond := rfl
@[simp] theorem inFsm_rx (f : Fsm) : (s.inFsm f).rx = s.rx := rfl
@[simp] theorem inFsm_tx (f : Fsm) : (s.inFsm f).tx = s.tx := rfl
@[simp] theorem inFsm_disp (f : Fsm) : (s.inFsm f).disp = { s.disp with fsm := f } := rfl
@[simp] theorem inFsm_slots (f : Fsm) : (s.inFsm f).slots = s.slots := rfl
@[simp] theorem inFsm_script (f : Fsm) : (s.inFsm f).script = s.script := rfl
@[simp] theorem inFsm_tick (f : Fsm) : (s.inFsm f).tick = s.tick := rfl

/-- The inputs of a tick with a given script entry are that entry. -/
@[simp] theorem withInput_input (x : TickIn) : (s.withInput x).input = x := rfl

/-- The inputs of a tick depend on the script and the tick number alone. -/
theorem input_congr (s t : State) (hs : s.script = t.script) (ht : s.tick = t.tick) : s.input = t.input := by
  simp [State.input, hs, ht]

end Machine
end Sys2Proof
end

