-- ==== Sys2Proof/Laws/Step.lean ====
section
/-! SUPPORT. Laws/Step.lean: each operation's answer, what a step can do, and runs of steps. -/

namespace Sys2Proof
namespace Machine

/-! ## What each Dispatcher-side transfer writes -/

/-- All that the capture of a host write changes (R158). -/
theorem capture_spec (s : State) :
    s.capture = { s with disp := { s.disp with
      rxValid := true, rxPkt := s.rx.buf, oe := true, txPkt := withTopByte s.disp.txPkt notReadyByte,
      destId := trailerId s.rx.buf, rxFlags := trailerFlags s.rx.buf, rxBc := inboundByteCount s.rx.cnt } } := rfl

/-- All that granting an event changes (R153, R227). -/
theorem grantEvent_spec (s : State) (i : PeriphId) (bc : ByteCount) :
    s.grantEvent i bc = { s with disp := { s.disp with
      fsm := .sendEvent, evtId := i, dir := true, txPkt := withTopByte s.disp.txPkt (eventHeader bc i) } } := rfl

/-- All that ending an event changes (R167, R228). -/
theorem endEvent_spec (s : State) :
    s.endEvent = { s with disp := { s.disp with
      fsm := .idle, dir := false, txPkt := withTopByte s.disp.txPkt okToSendByte } } := rfl

/-- All that a wait can change (R168). -/
theorem awaits_spec (s : State) (event : Bool) (f : Fsm) :
    s.awaits event f = { s with disp := { s.disp with fsm := if event then f else s.disp.fsm } } := by
  cases event <;> rfl

/-! ## A step -/

/-- Going on with a next state. -/
theorem andThen_eq_next (o : Result) (f : State → Result) (t : State) :
    andThen o f = .next t ↔ ∃ u, o = .next u ∧ f u = .next t := by
  cases o <;> simp [andThen]

/-- What a step can do: the four operations of the tick, all on the pre-tick state, joined (R70). -/
theorem step_next_iff (s t : State) :
    step s = .next t ↔
      ∃ a b c d, exec .cond s = .next a ∧ exec (rxOp s.controlVec) s = .next b ∧
        exec (txOp s.controlVec) s = .next c ∧ exec s.disp.fsm.op s = .next d ∧ t = s.join a b c d := by
  simp only [step, andThen_eq_next]
  constructor
  · rintro ⟨a, ha, b, hb, c, hc, d, hd, h⟩
    exact ⟨a, b, c, d, ha, hb, hc, hd, by simpa using h.symm⟩
  · rintro ⟨a, b, c, d, ha, hb, hc, hd, rfl⟩
    exact ⟨a, ha, b, hb, c, hc, d, hd, rfl⟩

/-! ## Runs -/

theorem path_nil (s t : State) : Path s [] t ↔ s = t := Iff.rfl

theorem path_cons (s v t : State) (vs : List State) :
    Path s (v :: vs) t ↔ s = v ∧ ∃ u, step s = .next u ∧ Path u vs t := Iff.rfl

theorem path_append (s t : State) (vs ws : List State) :
    Path s (vs ++ ws) t ↔ ∃ u, Path s vs u ∧ Path u ws t := by
  induction vs generalizing s with
  | nil => simp [Path]
  | cons v vs ih =>
    simp only [List.cons_append, path_cons, ih]
    constructor
    · rintro ⟨h, x, hx, u, hu, hw⟩; exact ⟨u, ⟨h, x, hx, hu⟩, hw⟩
    · rintro ⟨u, ⟨h, x, hx, hu⟩, hw⟩; exact ⟨h, x, hx, u, hu, hw⟩

/-- What every visited tick passes on, the end of the run has. -/
theorem path_induction {P : State → Prop} {Q : State → Prop} (hstep : ∀ v u, P v → Q v → step v = .next u → P u)
    {s t : State} {vs : List State} (hp : Path s vs t) (hs : P s) (hq : ∀ v ∈ vs, Q v) : P t := by
  induction vs generalizing s with
  | nil => exact hp ▸ hs
  | cons v vs ih =>
    obtain ⟨rfl, u, hu, hw⟩ := hp
    exact ih hw (hstep s u hs (hq s (by simp)) hu) fun x hx => hq x (by simp [hx])

end Machine
end Sys2Proof
end

