-- ==== Sys2Proof/Tests/Slice0.lean ====
section
/-! SUPPORT. Tests/Slice0.lean: small checks on fixed values. A test named `test_V<n>` is the vector V<n> of
95_test_vectors.md; the other expected values are written out from the rules. A theorem `witness_<Name>` shows that the
hypotheses of the statement `Obligations.<Name>` can be met, clause by clause. -/

open Sys2Proof Sys2Proof.Machine

namespace Sys2Proof.Tests

/-! ## Helpers -/

/-- The state after one tick. -/
def nextOf (s : State) : Option State :=
  match step s with
  | .next t => some t
  | .fault _ => none
  | .refused _ => none

/-- The pre-tick states of `n` ticks, and the state after them. -/
def run : Nat → State → Option (List State × State)
  | 0, s => some ([], s)
  | n + 1, s =>
    match step s with
    | .next u => (run n u).map fun p => (s :: p.1, p.2)
    | .fault _ => none
    | .refused _ => none

theorem path_of_run (n : Nat) (s t : State) (vs : List State) (h : run n s = some (vs, t)) : Path s vs t := by
  induction n generalizing s vs with
  | zero => cases h; rfl
  | succ n ih =>
    simp only [run] at h
    split at h
    · rename_i u hu
      obtain ⟨⟨ws, w⟩, hw, he⟩ := Option.map_eq_some_iff.mp h
      cases he
      exact ⟨rfl, u, hu, ih u ws hw⟩
    · cases h
    · cases h

/-- A run of ticks whose end meets a decidable condition is a path that meets it. -/
theorem path_where (n : Nat) (s : State) (p : List State → State → Bool)
    (h : (run n s).any (fun r => p r.1 r.2) = true) : ∃ vs t, Path s vs t ∧ p vs t = true := by
  cases hr : run n s with
  | none => simp [hr] at h
  | some r => exact ⟨r.1, r.2, path_of_run n s r.2 r.1 hr, by simpa [hr] using h⟩

/-- Slots 0, 1, 3, 7 and 14 outbound-capable, slots 2 and 4 inbound-capable, the others not registered. -/
def table : SlotTable :=
  ⟨15, ((((((Vector.replicate 15 none).setIfInBounds 0 (some ⟨false, true⟩)).setIfInBounds 1 (some ⟨false, true⟩)
    ).setIfInBounds 2 (some ⟨true, false⟩)).setIfInBounds 3 (some ⟨false, true⟩)).setIfInBounds 4 (some ⟨true, false⟩)
    ).setIfInBounds 7 (some ⟨false, true⟩) |>.setIfInBounds 14 (some ⟨false, true⟩)⟩

/-- `fsm = f`, the control vector `c`, the tick's inputs `x`, quiet ones after it, all else as after reset. -/
def tickIn (f : Fsm) (c : ControlVec) (x : TickIn) : State :=
  (((State.resetWith table [quietTick, quietTick]).inFsm f).withControl c).withInput x

/-- `cs_fall`, no clock edge. -/
def fall : ControlVec := 0b1000
/-- `cs_rise`, no clock edge. -/
def rise : ControlVec := 0b0100
/-- Chip-select high, no edge. -/
def high : ControlVec := 0b1100
/-- Chip-select low, no edge. -/
def low : ControlVec := 0b0000

/-- A quiet tick in which outbound peripheral `i` is valid. -/
def offer (i : Nat) (bc : ByteCount) (p : Packet) : TickIn := quietTick.withPeriph i ⟨true, p, bc, false⟩

/-- A quiet tick in which inbound peripheral `i` is ready. -/
def answer (i : Nat) : TickIn := quietTick.withPeriph i ⟨false, 0, 0, true⟩

/-- The packet of V30 and P2. -/
def sample : Packet := 0xA0A1A2A3A4A5A6A7A8A9AAABACADAEAF

/-- The packet of V57 and P1. -/
def written : Packet := 0x40554433221100000000000000000000

/-! ## Well-formedness: an ill-formed term for each check -/

theorem test_wf_refuses_okToSend_byte : (Instr.hdrEvent 0xF 0x0).notOkToSendByte = false ∧
    (Instr.hdrEvent 0xF 0x0).wellFormed = false := by decide

theorem test_wf_refuses_notReady_byte : (Instr.hdrEvent 0xF 0xF).notNotReadyByte = false ∧
    (Instr.hdrEvent 0xF 0xF).wellFormed = false := by decide

/-! ## Decode: every row, its word written out from the table -/

theorem test_decode_fsm4 :
    decode .dispatcher [0b0000] = .ok .start ∧ decode .dispatcher [0b0001] = .ok .idle ∧
    decode .dispatcher [0b0010] = .ok .okToSend ∧ decode .dispatcher [0b0011] = .ok .waitStmData ∧
    decode .dispatcher [0b0100] = .ok .receiving ∧ decode .dispatcher [0b0101] = .ok .receiveHandshake ∧
    decode .dispatcher [0b0110] = .ok .waitForTxn ∧ decode .dispatcher [0b0111] = .ok .sendEvent ∧
    decode .dispatcher [0b1000] = .ok .sendingEvent ∧ decode .dispatcher [0b1001] = .ok .periphEvent ∧
    decode .dispatcher [0b1010] = .ok .sendData ∧ decode .dispatcher [0b1011] = .ok .sending := by decide

theorem test_decode_fsm4_unused :
    decode .dispatcher [0b1100] = .error (.unusedFsmCode 12) ∧
    decode .dispatcher [0b1111] = .error (.unusedFsmCode 15) := by decide

/-- Patterns `-1--`, `-001`, any other, at their don't-care bits both ways (R97). -/
theorem test_decode_rx :
    decode .rxCodec [0b0100] = .ok .rxClear ∧ decode .rxCodec [0b1101] = .ok .rxClear ∧
    decode .rxCodec [0b0001] = .ok .rxShift ∧ decode .rxCodec [0b1001] = .ok .rxShift ∧
    decode .rxCodec [0b0000] = .ok .rxHold ∧ decode .rxCodec [0b1011] = .ok .rxHold := by decide

/-- Patterns `-1--`, `10--`, `0010`, any other (R98). -/
theorem test_decode_tx :
    decode .txCodec [0b0100] = .ok .txClear ∧ decode .txCodec [0b1110] = .ok .txClear ∧
    decode .txCodec [0b1000] = .ok .txLoad ∧ decode .txCodec [0b1010] = .ok .txLoad ∧
    decode .txCodec [0b0010] = .ok .txShift ∧ decode .txCodec [0b0011] = .ok .txHold ∧
    decode .txCodec [0b0001] = .ok .txHold := by decide

theorem test_decode_cond : decode .inputConditioner [] = .ok .cond := by decide

/-- `11110000`, `11111111`, `bbbbiiii` with byteCount 5 and id 1 (V51), byteCount 15 and id 2 (V53). -/
theorem test_decode_hdr8 :
    decode .headerByte [0b11110000] = .ok .hdrOkToSend ∧ decode .headerByte [0b11111111] = .ok .hdrNotReady ∧
    decode .headerByte [0b01010001] = .ok (.hdrEvent 5 1) ∧
    decode .headerByte [0b11110010] = .ok (.hdrEvent 15 2) := by decide

/-- `iiiiffff` with id 9 and flags 3 (V21). -/
theorem test_decode_trl8 : decode .inboundTrailer [0b10010011] = .ok (.inbTrailer 9 3) := by decide

theorem test_decode_rejects_by_name :
    decode .dispatcher [0b10000] = .error (.aboveFourBits .dispatcher 16) ∧
    decode .rxCodec [0xFF] = .error (.aboveFourBits .rxCodec 255) ∧
    decode .headerByte [] = .error (.wrongLength .headerByte 0) ∧
    decode .inputConditioner [0] = .error (.wrongLength .inputConditioner 1) ∧
    decode .dispatcher [0, 0] = .error (.wrongLength .dispatcher 2) := by decide

/-- Decode agrees with the table's "mask" and "match" for each of the sixteen values of a CTL4 word. -/
theorem test_rx_decode_matches_the_table : ∀ c : ControlVec,
    c.setWidth 8 &&& (tableMaskMatch (rxOp c)).1 = (tableMaskMatch (rxOp c)).2 := by decide

theorem test_tx_decode_matches_the_table : ∀ c : ControlVec,
    c.setWidth 8 &&& (tableMaskMatch (txOp c)).1 = (tableMaskMatch (txOp c)).2 := by decide

theorem test_encode_event_header : encode (.hdrEvent 5 1) = [0b01010001] ∧
    encode (.inbTrailer 9 3) = [0b10010011] := by decide

theorem test_decodeTableWord :
    decodeTableWord 0 0 = some .cond ∧ decodeTableWord 8 9 = some .periphEvent ∧
    decodeTableWord 8 0xF0 = some .hdrOkToSend ∧ decodeTableWord 8 0x51 = some (.hdrEvent 5 1) ∧
    decodeTableWord 8 13 = none := by decide

theorem test_withFetchWord :
    (State.reset.withFetchWord 8 9).disp.fsm = .periphEvent ∧
    .hdrEvent 5 1 ∈ (State.reset.withFetchWord 8 0x51).tickOps := by decide

/-! ## Input Conditioner -/

theorem test_V1 : (nextOf (tickIn .idle high (TickIn.host false false 0))).map
    (fun t => (t.cond.csFf0, t.cond.csFf1, t.cond.csPrev)) = some (false, true, true) := by decide

theorem test_V3 :
    let s := { tickIn .idle high quietTick with cond := ⟨true, true, true, false, true, false⟩ }
    s.clkRise = true ∧ s.clkFall = false ∧
    (nextOf s).map (fun t => (t.cond.clkFf0, t.cond.clkFf1, t.cond.clkPrev, t.clkFall)) =
      some (false, false, true, true) := by decide

/-! ## Rx Codec -/

theorem test_V11 :
    (nextOf ((tickIn .idle 0b0001 (TickIn.host false false 2)).setRx 0x11000000000000000000000000000000 2)).map
      (fun t => t.rx) = some ⟨0x21100000000000000000000000000000, 3⟩ := by decide

theorem test_V14 :
    let s := (tickIn .idle 0b0001 (TickIn.host false false 4)).setRx 0x47DCBA9876543210FEDCBA987654321F 32
    s.rxReady = true ∧ (nextOf s).map (fun t => (t.rx, t.rxReady)) =
      some (⟨0x447DCBA9876543210FEDCBA987654321, 33⟩, false) := by decide

theorem test_V15_V17 :
    (nextOf ((tickIn .idle 0b0001 quietTick).setRx 0 63)).map (fun t => t.rx.cnt) = some 0 ∧
    (nextOf ((tickIn .idle 0b0101 (TickIn.host true false 4)).setRx written 12)).map (fun t => t.rx) =
      some ⟨0, 0⟩ := by decide

theorem test_V13 :
    (nextOf ((tickIn .idle 0b0011 quietTick).setRx written 3)).map (fun t => t.rx) = some ⟨written, 3⟩ ∧
    (nextOf ((tickIn .idle 0b0010 quietTick).setRx written 3)).map (fun t => t.rx) = some ⟨written, 3⟩ := by decide

theorem test_V20 : [0, 1, 2, 3, 4, 12, 31, 32, 33, 63].map inboundByteCount =
    [31, 31, 0, 0, 1, 5, 14, 15, 15, 30] := by decide

/-! ## Tx Codec -/

theorem test_V30 :
    (nextOf ((tickIn .idle fall quietTick).setTxPkt sample)).map (fun t => (t.tx, t.dqOut)) =
      some (⟨sample, 0⟩, 0xA) := by decide

theorem test_V31_V36 :
    (nextOf (((tickIn .idle 0b0010 quietTick).setTxPkt 0x12340000000000000000000000).setTx sample 0)).map
      (fun t => (t.tx, t.dqOut)) = some (⟨0x0A1A2A3A4A5A6A7A8A9AAABACADAEAF0, 1⟩, 0) ∧
    (nextOf (((tickIn .idle 0b1010 quietTick).setTxPkt sample).setTx 0 7)).map (fun t => t.tx) =
      some ⟨sample, 0⟩ := by decide

theorem test_V35 : (nextOf ((tickIn .idle high quietTick).setTx sample 7)).map (fun t => (t.tx, t.dqOut)) =
    some (⟨0, 0⟩, 0) := by decide

theorem test_V37 : (nextOf ((tickIn .idle 0b0001 quietTick).setTx sample 7)).map (fun t => t.tx) =
    some ⟨sample, 7⟩ := by decide

/-! ## Dispatcher -/

theorem test_V40 : (nextOf (tickIn .start high quietTick)).map (fun t => (t.disp.fsm, t.disp.txPkt)) =
    some (.idle, 0xF0000000000000000000000000000000) := by decide

theorem test_V41 :
    let s := tickIn .idle fall (offer 1 5 sample)
    (nextOf s).map (fun t => t.disp) = some { s.disp with fsm := .okToSend } := by decide

theorem test_V43_V44 :
    (nextOf ((tickIn .idle high (offer 1 5 sample)).setTxPkt 0xF0000000000000000000000000000000)).map
      (fun t => (t.disp.evtId, t.disp.txPkt, t.disp.dir, t.disp.fsm)) =
      some (1, 0x51000000000000000000000000000000, true, .sendEvent) ∧
    (nextOf (tickIn .idle high ((offer 3 16 0).withPeriph 7 ⟨true, 0, 2, false⟩))).map
      (fun t => (t.disp.evtId, t.hdr, t.disp.dir, t.disp.fsm)) = some (3, 0x03, true, .sendEvent) := by decide

/-- An inbound-only slot and an unregistered one are not polled (V45). -/
theorem test_V45 :
    let s := tickIn .idle high ((offer 2 5 sample).withPeriph 5 ⟨true, 0, 2, false⟩)
    (nextOf s).map (fun t => t.disp) = some s.disp := by decide

theorem test_V47 : (nextOf (tickIn .okToSend rise quietTick)).map (fun t => t.disp.fsm) = some .waitStmData := by decide

theorem test_V48 :
    let s := tickIn .okToSend low (offer 1 5 sample)
    (nextOf s).map (fun t => t.disp) = some s.disp := by decide

theorem test_V49 : (nextOf (tickIn .waitStmData high quietTick)).map (fun t => (t.disp.oe, t.disp.fsm)) =
    some (false, .waitStmData) := by decide

theorem test_V56 : (nextOf (tickIn .waitStmData fall quietTick)).map (fun t => (t.disp.oe, t.disp.fsm)) =
    some (false, .receiving) := by decide

theorem test_V57 :
    let s := (((tickIn .receiving rise quietTick).setRx written 12).setOe false).stageHeader 0xF0
    (nextOf s).map (fun t => (t.disp, t.rx)) =
      some (⟨.receiveHandshake, 0xFF000000000000000000000000000000, written, true, 4, 0, 5, 0, false, true⟩, ⟨0, 0⟩) := by
  decide

theorem test_V58 :
    let s := (tickIn .receiving low quietTick).setRx written 32
    s.rxReady = true ∧ (nextOf s).map (fun t => t.disp) = some s.disp := by decide

theorem test_V59_V63 :
    let s := ((tickIn .receiveHandshake fall quietTick).latchTrailer 4 0).setRxValid true
    s.valid 4 = true ∧ (nextOf s).map (fun t => t.disp) = some s.disp ∧
    (nextOf (s.withInput (answer 4))).map (fun t => (t.disp.rxValid, t.disp.fsm, t.valid 4)) =
      some (false, .waitForTxn, false) := by decide

/-- Destination 9 is not registered: the free `UNREG_READY` decides (V64, V65). -/
theorem test_V64_V65 :
    let s := ((tickIn .receiveHandshake high quietTick).latchTrailer 9 0).setRxValid true
    s.valid 9 = false ∧ (nextOf s).map (fun t => t.disp) = some s.disp ∧
    (nextOf (s.withInput { quietTick with unregReady := true })).map (fun t => (t.disp.rxValid, t.disp.fsm)) =
      some (false, .waitForTxn) := by decide

theorem test_V66 : (nextOf ((tickIn .waitForTxn rise quietTick).stageHeader 0xFF)).map (fun t => (t.hdr, t.disp.fsm)) =
    some (0xF0, .idle) := by decide

theorem test_V67 :
    let s := tickIn .waitForTxn fall quietTick
    (nextOf s).map (fun t => t.disp) = some s.disp := by decide

theorem test_V68 : (nextOf ((tickIn .sendEvent fall quietTick).setDir true)).map (fun t => (t.disp.fsm, t.dirOut)) =
    some (.sendingEvent, true) := by decide

theorem test_V69 : (nextOf (tickIn .sendingEvent rise quietTick)).map (fun t => t.disp.fsm) = some .periphEvent := by
  decide

theorem test_V70 :
    let s := { tickIn .periphEvent high (offer 1 5 sample) with
      disp := ⟨.periphEvent, 0x01000000000000000000000000000000, 0, false, 0, 0, 0, 1, true, true⟩ }
    s.ack 1 = true ∧ s.ack 3 = false ∧
    (nextOf s).map (fun t => (t.disp.txPkt, t.disp.fsm, t.ack 1)) = some (sample, .sendData, false) := by decide

theorem test_V71 : (nextOf (tickIn .sendData fall quietTick)).map (fun t => t.disp.fsm) = some .sending := by decide

theorem test_V72 : (nextOf (((tickIn .sending rise quietTick).setTxPkt sample).setDir true)).map
    (fun t => (t.disp.txPkt, t.disp.dir, t.disp.fsm)) =
      some (0xF0A1A2A3A4A5A6A7A8A9AAABACADAEAF, false, .idle) := by decide

theorem test_V73 :
    let s := ((tickIn .sending 0b0010 quietTick).setTxPkt sample).setDir true
    (nextOf s).map (fun t => t.disp) = some s.disp := by decide

/-! ## Header and trailer bytes, registry, notation -/

/-- V50 to V55, V74, V75. -/
theorem test_V50 :
    eventHeader 16 1 = 0x01 ∧ eventHeader 5 1 = 0x51 ∧ eventHeader 15 0 = 0xF0 ∧ eventHeader 31 2 = 0xF2 ∧
    eventHeader 0 14 = 0x0E ∧ eventHeader 15 15 = 0xFF ∧ eventHeader 3 0 = 0x30 ∧ eventHeader 7 2 = 0x72 := by decide

theorem test_V21 :
    trailerId 0x935A0000000000000000000000000000 = 9 ∧ trailerFlags 0x935A0000000000000000000000000000 = 3 ∧
    trailerId 0x47DCBA9876543210FEDCBA9876543210 = 4 ∧ trailerFlags 0x47DCBA9876543210FEDCBA9876543210 = 7 := by decide

/-- V22: the symbols of a host write, and its 12-symbol script (R212: `4 + 8n` ticks). -/
theorem test_V22 :
    writeSymbols [0x11, 0x22, 0x33, 0x44, 0x55] 0 4 = [1, 1, 2, 2, 3, 3, 4, 4, 5, 5, 0, 4] ∧
    writeSymbols [0x5A] 0 4 = [0xA, 5, 0, 4] ∧ (wr [0xA, 5, 0, 4]).length = 36 ∧ probe.length = 20 := by decide

/-- Two samples make a byte, the first on top (R212, R218); while the engine does not drive there is no sample. -/
theorem test_reading_half :
    let v := fun (sh : Packet) (oe : Bool) => ((tickIn .okToSend low quietTick).setTx sh 0).setOe oe
    let low4 := List.replicate 4 (v 0 true)
    let vs := low4 ++ v 0xF0000000000000000000000000000000 true :: List.replicate 7 (v 0 true) ++
      [v 0x50000000000000000000000000000000 true]
    readSample vs 0 = some 0xF ∧ readSample vs 1 = some 5 ∧ probeByte vs = some 0xF5 ∧ readByte vs 1 = none ∧
    readSample (low4 ++ [v 0xF0000000000000000000000000000000 false]) 0 = none := by decide

/-- R206 to R209: what the host owes after a transaction, and what breaks the sequence. -/
theorem test_host_sequence :
    HostDue.nothing.after (.read 2) 0xF0 .okToSend = some .realWrite ∧
    HostDue.realWrite.after (.write [0, 4]) 0xF0 .receiving = some .followUpProbe ∧
    HostDue.followUpProbe.after (.read 2) 0xFF .receiveHandshake = some .followUpProbe ∧
    HostDue.followUpProbe.after (.read 2) 0xFF .waitForTxn = some .nothing ∧
    HostDue.followUpProbe.after (.read 2) 0xF0 .okToSend = some .realWrite ∧
    HostDue.nothing.after (.read 2) 0x51 .sendingEvent = some .realRead ∧
    HostDue.realRead.after (.read 32) 0xA0 .sending = some .nothing ∧
    HostDue.nothing.after (.write [0, 4]) 0xF0 .okToSend = none ∧
    HostDue.realWrite.after (.read 2) 0xF0 .receiving = none ∧
    HostDue.realRead.after (.write [0, 4]) 0xA0 .sending = none := by decide

/-- R214 items 2 and 3: an unregistered destination, an outbound-only one, odd and over-long transactions. -/
theorem test_host_transactions :
    (HostTransaction.write [0xA, 5, 0, 4]).legal table = true ∧ (HostTransaction.write [0, 9]).legal table = false ∧
    (HostTransaction.write [0, 1]).legal table = false ∧ (HostTransaction.write [5, 0, 4]).legal table = false ∧
    (HostTransaction.write []).legal table = false ∧ (HostTransaction.read 32).legal table = true ∧
    (HostTransaction.read 33).legal table = false := by decide

/-- The header operations write the top byte alone, and INB_TRAILER two fields (R83, R87 to R89). -/
theorem test_wire_operations :
    let s := (tickIn .idle high quietTick).setTxPkt sample
    exec (.hdrEvent 5 1) s = .next (s.setTxPkt 0x51A1A2A3A4A5A6A7A8A9AAABACADAEAF) ∧
    exec .hdrOkToSend s = .next (s.setTxPkt 0xF0A1A2A3A4A5A6A7A8A9AAABACADAEAF) ∧
    exec .hdrNotReady s = .next (s.setTxPkt 0xFFA1A2A3A4A5A6A7A8A9AAABACADAEAF) ∧
    exec (.inbTrailer 9 3) s = .next { s with disp := { s.disp with destId := 9, rxFlags := 3 } } :=
  ⟨rfl, rfl, rfl, rfl⟩

/-! ## The hypotheses of the statements can be met

A state of the inbound half, one of the outbound half, and runs of a few ticks stand for the general case; where a
statement has several clauses, the theorem meets each of them. -/

/-- A state in which the invariants of the statements hold: IDLE at rest, peripheral 1 valid. -/
def idleWithOffer : State := { tickIn .idle high (offer 1 5 sample) with
  disp := ⟨.idle, 0xF0000000000000000000000000000000, 0, false, 0, 0, 0, 0, false, true⟩ }

/-- A grant is in force: slot 1, the dummy read's end is seen. -/
def dummyReadEnds : State := { tickIn .sendingEvent rise (offer 1 5 sample) with
  disp := ⟨.sendingEvent, 0x51000000000000000000000000000000, 0, false, 0, 0, 0, 1, true, true⟩ }

/-- PERIPH_EVENT of slot 1. -/
def periphEventNow : State := { tickIn .periphEvent high (offer 1 5 sample) with
  disp := ⟨.periphEvent, 0x51000000000000000000000000000000, 0, false, 0, 0, 0, 1, true, true⟩ }

/-- WAIT_STM_DATA in its first tick. -/
def waitingForWrite : State := { tickIn .waitStmData high quietTick with
  disp := ⟨.waitStmData, 0xF0000000000000000000000000000000, 0, false, 0, 0, 0, 0, false, true⟩ }

/-- A presented packet for slot 4. -/
def presented : State := { tickIn .receiveHandshake high quietTick with
  disp := ⟨.receiveHandshake, 0xFF000000000000000000000000000000, written, true, 4, 0, 5, 0, false, true⟩ }

/-- The end of a write is seen in RECEIVING. -/
def writeEnds : State := { tickIn .receiving rise quietTick with
  rx := ⟨written, 12⟩
  disp := ⟨.receiving, 0xF0000000000000000000000000000000, 0, false, 0, 0, 0, 0, false, false⟩ }

/-- A host write seen from its `cs_fall` on, of the given symbols, one tick per clock phase: the symbol of a tick is
sampled in the tick in which the settled clock rises. -/
def fastWrite (qs : List Symbol) : State :=
  { tickIn .waitStmData fall quietTick with
    cond := ⟨false, false, true, true, false, false⟩
    disp := ⟨.waitStmData, 0xF0000000000000000000000000000000, 0, false, 0, 0, 0, 0, false, true⟩
    script := fastPulses qs }
where
  /-- Raw samples run two ticks ahead of the settled ones. -/
  fastPulses : List Symbol → List TickIn
    | [] => []
    | [q] => [TickIn.host true false 0, TickIn.host true false q]
    | q :: qs => [TickIn.host false false 0, TickIn.host false true q] ++ fastPulses qs

theorem witness_FirstTicksSeeNoEdge :
    ∃ v0 v1 t, Path (State.resetWith table [TickIn.host false false 0, quietTick]) [v0, v1] t :=
  ⟨_, _, _, rfl, _, rfl, rfl, _, rfl, rfl⟩

/-- At reset, in IDLE before a grant, in the outbound half, in PERIPH_EVENT and in WAIT_STM_DATA. -/
theorem witness_StatusInvariantIsKept :
    (idleWithOffer.StatusInv ∧ idleWithOffer.disp.fsm = .idle ∧
      ∃ t, step idleWithOffer = .next t ∧ t.disp.fsm = .sendEvent) ∧
    (dummyReadEnds.StatusInv ∧ ∃ t, step dummyReadEnds = .next t ∧ t.disp.fsm.outbound = true) ∧
    (periphEventNow.StatusInv ∧ ∃ t, step periphEventNow = .next t) ∧
    (waitingForWrite.StatusInv ∧ ∃ t, step waitingForWrite = .next t ∧ t.disp.fsm = .waitStmData) :=
  ⟨⟨by constructor <;> decide, rfl, _, rfl, rfl⟩, ⟨by constructor <;> decide, _, rfl, rfl⟩,
    ⟨by constructor <;> decide, _, rfl⟩, by constructor <;> decide, _, rfl, rfl⟩

theorem witness_LineInvariantIsKept :
    (State.resetWith table [quietTick]).LineInv ∧ ∃ t, step (State.resetWith table [quietTick]) = .next t :=
  ⟨by constructor <;> decide, _, rfl⟩

theorem witness_DecodeOfEncodeIsTheOperation :
    (Instr.hdrEvent 0xF 1).wellFormed = true ∧ (Instr.inbTrailer 15 15).wellFormed = true := by decide

theorem witness_DecodedWordsAreWellFormed :
    decode .headerByte [0xF1] = .ok (.hdrEvent 0xF 1) ∧ decode .rxCodec [0b1001] = .ok .rxShift := by decide

theorem witness_RxDecodeFollowsItsPatterns :
    ((0b0111 : ControlVec).getLsbD 2 = true) ∧
    ((0b1001 : ControlVec).getLsbD 2 = false ∧ (0b1001 : ControlVec).getLsbD 1 = false ∧
      (0b1001 : ControlVec).getLsbD 0 = true) ∧
    ((0b1011 : ControlVec).getLsbD 2 = false ∧ (0b1011 : ControlVec).getLsbD 1 = true) ∧
    ((0b1000 : ControlVec).getLsbD 2 = false ∧ (0b1000 : ControlVec).getLsbD 0 = false) := by decide

theorem witness_TxDecodeFollowsItsPatterns :
    ((0b1110 : ControlVec).getLsbD 2 = true) ∧
    ((0b1010 : ControlVec).getLsbD 3 = true ∧ (0b1010 : ControlVec).getLsbD 2 = false) ∧
    ((0b0011 : ControlVec).getLsbD 3 = false ∧ (0b0011 : ControlVec).getLsbD 2 = false ∧
      (0b0011 : ControlVec) ≠ 0b0010) := by decide

theorem witness_FsmCodesSelectTheActions :
    (11 : BitVec 4).toNat < 12 ∧ 12 ≤ (12 : BitVec 4).toNat ∧ 12 ≤ (15 : BitVec 4).toNat := by decide

theorem witness_HeaderBytesAreClassified :
    ((0xF1 : WireByte) ≠ 0xF0 ∧ (0xF1 : WireByte) ≠ 0xFF) ∧
    ((0x00 : WireByte) ≠ 0xF0 ∧ (0x00 : WireByte) ≠ 0xFF) := by decide

theorem witness_StepRunsTheDecodedOperations :
    let s := tickIn .receiving 0b0001 quietTick
    decode .rxCodec [s.controlVec.setWidth 8] = .ok .rxShift ∧
    decode .txCodec [s.controlVec.setWidth 8] = .ok .txHold ∧
    decode .dispatcher [s.disp.fsm.code.setWidth 8] = .ok .receiving := by decide

theorem witness_EveryRegisterHasOneWriter :
    let s := tickIn .receiving 0b0001 quietTick
    (∃ t, exec .cond s = .next t) ∧ (∃ t, exec .rxShift s = .next t) ∧ (∃ t, exec .txLoad s = .next t) ∧
    (∃ t, exec .receiving s = .next t) ∧ (∃ t, exec (.hdrEvent 5 1) s = .next t) ∧
    ∃ t, exec (.inbTrailer 9 3) s = .next t :=
  ⟨⟨_, rfl⟩, ⟨_, rfl⟩, ⟨_, rfl⟩, ⟨_, rfl⟩, ⟨_, rfl⟩, _, rfl⟩

theorem witness_SequentialOrderGivesTheTick :
    let s := writeEnds
    ∃ s1 s2 s3 s4, exec (txOp s.controlVec) s = .next s1 ∧ exec s.disp.fsm.op s1 = .next s2 ∧
      exec (rxOp s.controlVec) s2 = .next s3 ∧ exec .cond s3 = .next s4 :=
  ⟨_, _, _, _, rfl, rfl, rfl, rfl⟩

theorem witness_WireOperationsTakeEffectInTheTick :
    (.hdrNotReady ∈ writeEnds.wireOps ∧ .inbTrailer 4 0 ∈ writeEnds.wireOps) ∧
    (∃ u, exec .hdrNotReady writeEnds = .next u) ∧ (∃ u, exec (.inbTrailer 4 0) writeEnds = .next u) ∧
    ∃ t, step writeEnds = .next t :=
  ⟨by decide, ⟨_, rfl⟩, ⟨_, rfl⟩, _, rfl⟩

theorem witness_PlacedOperationIsInTheTick :
    (Instr.hdrEvent 5 14).wellFormed = true ∧ ∀ bc id, Instr.hdrEvent 5 14 = .hdrEvent bc id → id ≠ 15 := by
  refine ⟨by decide, fun bc id h => ?_⟩
  cases h
  decide

theorem witness_SlotTableIsNeverWritten : ∃ vs t, Path idleWithOffer vs t ∧ decide (vs.length = 2) = true :=
  path_where 2 idleWithOffer _ (by decide)

theorem witness_OutputsAreRegisters :
    presented.slots.canReceive 4 = true ∧ presented.valid 4 = true ∧
    periphEventNow.slots.canSend 1 = true ∧ periphEventNow.ack 1 = true := by decide

theorem witness_CondShiftsTheControlPair : ∃ u, step idleWithOffer = .next u := ⟨_, rfl⟩

theorem witness_ChipSelectEdgesLastOneTick :
    (∃ t, step (tickIn .idle fall quietTick) = .next t) ∧ (tickIn .idle fall quietTick).csFall = true ∧
    (∃ t, step (tickIn .idle rise quietTick) = .next t) ∧ (tickIn .idle rise quietTick).csRise = true :=
  ⟨⟨_, rfl⟩, rfl, ⟨_, rfl⟩, rfl⟩

theorem witness_ControlLinesSettleTwoTicksLate : ∃ v0 v1 v2 t, Path idleWithOffer [v0, v1, v2] t :=
  ⟨_, _, _, _, rfl, _, rfl, rfl, _, rfl, rfl, _, rfl, rfl⟩

/-- The tick's conditions for RX_CLEAR, RX_SHIFT and RX_HOLD. -/
theorem witness_RxMicroOperations :
    ((∃ t, step (tickIn .idle rise quietTick) = .next t) ∧ (tickIn .idle rise quietTick).csS = true) ∧
    ((∃ t, step (tickIn .idle 0b0001 quietTick) = .next t) ∧ (tickIn .idle 0b0001 quietTick).csS = false ∧
      (tickIn .idle 0b0001 quietTick).clkRise = true) ∧
    ((∃ t, step (tickIn .idle 0b0010 quietTick) = .next t) ∧ (tickIn .idle 0b0010 quietTick).csS = false ∧
      (tickIn .idle 0b0010 quietTick).clkRise = false) :=
  ⟨⟨⟨_, rfl⟩, rfl⟩, ⟨⟨_, rfl⟩, rfl, rfl⟩, ⟨_, rfl⟩, rfl, rfl⟩

theorem witness_RxReadyIsTheFullCount :
    ((∃ t, step (tickIn .idle rise quietTick) = .next t) ∧ (tickIn .idle rise quietTick).csS = true) ∧
    ((∃ t, step (tickIn .idle 0b0001 quietTick) = .next t) ∧ (tickIn .idle 0b0001 quietTick).rxEdge = true) ∧
    ((∃ t, step (tickIn .idle low quietTick) = .next t) ∧ (tickIn .idle low quietTick).csS = false ∧
      (tickIn .idle low quietTick).rxEdge = false) :=
  ⟨⟨⟨_, rfl⟩, rfl⟩, ⟨⟨_, rfl⟩, rfl⟩, ⟨_, rfl⟩, rfl, rfl⟩

/-- A transaction of two symbols after a tick with chip-select high. -/
def beforeFastWrite : State :=
  { fastWrite [1, 2] with
    cond := ⟨false, true, true, false, false, false⟩
    script := TickIn.host false true 0 :: (fastWrite [1, 2]).script }

theorem witness_ReceivedSymbolsStackDownwards :
    beforeFastWrite.csS = true ∧ ∃ s, step beforeFastWrite = .next s ∧ ∃ vs t, Path s vs t ∧
      (decide (∀ v ∈ vs, v.csS = false) && decide (sampled vs = [1, 2]) && decide ((sampled vs).length ≤ 32)) = true :=
  ⟨rfl, _, rfl, path_where 4 _ _ (by decide)⟩

theorem witness_RxReadyOnlyAtAFullPacket :
    beforeFastWrite.csS = true ∧ ∃ s, step beforeFastWrite = .next s ∧ ∃ vs t, Path s vs t ∧
      (decide (∀ v ∈ vs, v.csS = false) && decide (edges State.rxEdge vs = 2) &&
        decide (edges State.rxEdge vs < 96)) = true :=
  ⟨rfl, _, rfl, path_where 4 _ _ (by decide)⟩

/-- The tick's conditions for TX_CLEAR, TX_LOAD, TX_SHIFT and TX_HOLD. -/
theorem witness_TxMicroOperations :
    (∃ t, step (tickIn .idle high quietTick) = .next t ∧ (tickIn .idle high quietTick).csS = true) ∧
    (∃ t, step (tickIn .idle 0b1010 quietTick) = .next t ∧ (tickIn .idle 0b1010 quietTick).csS = false ∧
      (tickIn .idle 0b1010 quietTick).cond.csPrev = true) ∧
    (∃ t, step (tickIn .idle 0b0010 quietTick) = .next t ∧ (tickIn .idle 0b0010 quietTick).csS = false ∧
      (tickIn .idle 0b0010 quietTick).cond.csPrev = false ∧ (tickIn .idle 0b0010 quietTick).clkFall = true) ∧
    ∃ t, step (tickIn .idle 0b0001 quietTick) = .next t ∧ (tickIn .idle 0b0001 quietTick).csS = false ∧
      (tickIn .idle 0b0001 quietTick).cond.csPrev = false ∧ (tickIn .idle 0b0001 quietTick).clkFall = false :=
  ⟨⟨_, rfl, rfl⟩, ⟨_, rfl, rfl, rfl⟩, ⟨_, rfl, rfl, rfl, rfl⟩, _, rfl, rfl, rfl, rfl⟩

/-- One falling clock edge follows the load. -/
theorem witness_SnapshotIsSentSymbolBySymbol :
    (fastWrite [1, 2]).csFall = true ∧ ∃ s, step (fastWrite [1, 2]) = .next s ∧ ∃ vs t, Path s vs t ∧
      (decide (∀ v ∈ vs, v.csS = false) && decide (edges State.clkFall vs = 1)) = true :=
  ⟨rfl, _, rfl, path_where 2 _ _ (by decide)⟩

theorem witness_CoincidentEdges :
    (∃ t, step (tickIn .idle 0b1001 quietTick) = .next t ∧ (tickIn .idle 0b1001 quietTick).csFall = true ∧
      (tickIn .idle 0b1001 quietTick).clkRise = true) ∧
    (∃ t, step (tickIn .idle 0b1010 quietTick) = .next t ∧ (tickIn .idle 0b1010 quietTick).csFall = true ∧
      (tickIn .idle 0b1010 quietTick).clkFall = true) ∧
    ∃ t, step (tickIn .idle 0b0101 quietTick) = .next t ∧ (tickIn .idle 0b0101 quietTick).csRise = true :=
  ⟨⟨_, rfl, rfl, rfl⟩, ⟨_, rfl, rfl, rfl⟩, _, rfl, rfl⟩

theorem witness_StartPreloadsTheHeader : ∃ t, step (State.resetWith table [quietTick]) = .next t := ⟨_, rfl⟩

/-- A falling chip-select; the least requester 1 and, at the range's end, 14; no requester. -/
theorem witness_IdlePriority :
    (tickIn .idle fall (offer 1 5 0)).csFall = true ∧
    (∀ i, i = 0 ∨ i = 1 ∨ i = 14 →
      let s := tickIn .idle high (offer i 5 0)
      s.csFall = false ∧ s.slots.canSend i = true ∧ (s.input.periph i).valid = true ∧
      ∀ j, j < i → ¬(s.slots.canSend j = true ∧ (s.input.periph j).valid = true)) ∧
    let s := State.resetWith emptySlots [quietTick]
    s.csFall = false ∧ ∀ i, ¬(s.slots.canSend i = true ∧ (s.input.periph i).valid = true) := by
  refine ⟨rfl, ?_, rfl, ?_⟩
  · rintro i (rfl | rfl | rfl) <;> decide
  · intro i h
    have hc : (emptySlots.slot i).any Slot.canSend = true := h.1
    have hs : emptySlots.slot i = none := by
      unfold SlotTable.slot
      split
      · rename_i hi
        have hi : i < 15 := hi
        interval_cases i <;> rfl
      · rfl
    simp [hs] at hc

theorem witness_AwaitingStatesMoveOnTheirEdge :
    ∃ u, step (tickIn .sendEvent fall quietTick) = .next u ∧ (tickIn .sendEvent fall quietTick).csFall = true :=
  ⟨_, rfl, rfl⟩

/-- A tick in WAIT_STM_DATA, and the tick that leads to it. -/
theorem witness_WaitStmDataDropsOutputEnable :
    (waitingForWrite.disp.fsm = .waitStmData ∧ ∃ t, step waitingForWrite = .next t) ∧
    let s := { tickIn .okToSend rise quietTick with disp := { waitingForWrite.disp with fsm := .okToSend } }
    s.StatusInv ∧ s.disp.fsm ≠ .waitStmData ∧ ∃ t, step s = .next t ∧ t.disp.fsm = .waitStmData :=
  ⟨⟨rfl, _, rfl⟩, by constructor <;> decide, by decide, _, rfl, rfl⟩

theorem witness_ReceivingCapturesTheWrite :
    writeEnds.csRise = true ∧ (tickIn .receiving low quietTick).csRise = false := by decide

theorem witness_ByteCountIsTheLengthLessTheTrailer :
    writeEnds.disp.fsm = .receiving ∧ writeEnds.csRise = true ∧ ∃ t, step writeEnds = .next t := ⟨rfl, rfl, _, rfl⟩

theorem witness_TrailerFieldsAreLatched :
    writeEnds.disp.fsm = .receiving ∧ writeEnds.csRise = true ∧ ∃ t, step writeEnds = .next t := ⟨rfl, rfl, _, rfl⟩

/-- `ready` at 1 and at 0, for a destination with an inbound-capable slot and for one without. -/
theorem witness_HandshakeCompletesOrStalls :
    (presented.withInput (answer 4)).readyEff = true ∧ presented.readyEff = false ∧
    ((presented.latchTrailer 9 0).withInput { quietTick with unregReady := true }).readyEff = true ∧
    (presented.latchTrailer 9 0).slots.canReceive 9 = false ∧ (presented.latchTrailer 9 0).readyEff = false := by decide

theorem witness_WaitForTxnRestoresTheHeader :
    (tickIn .waitForTxn rise quietTick).csRise = true ∧ (tickIn .waitForTxn low quietTick).csRise = false := by decide

theorem witness_PeriphEventCopiesThePacket :
    periphEventNow.disp.fsm = .periphEvent ∧ (∃ t, step periphEventNow = .next t) ∧
    periphEventNow.slots.canSend periphEventNow.disp.evtId.toNat = true :=
  ⟨rfl, ⟨_, rfl⟩, rfl⟩

theorem witness_SendingEndsTheEvent :
    (tickIn .sending rise quietTick).csRise = true ∧ (tickIn .sending low quietTick).csRise = false := by decide

/-- The byteCounts at the ends of the legal range. -/
theorem witness_EventHeaderNeverReadsAsBusy :
    legalByteCount 0 ∧ legalByteCount 14 ∧ legalByteCount 16 ∧ (14 : PeriphId) ≠ 15 := by
  unfold legalByteCount
  decide

theorem witness_ControlFlowIsTheTable : ∃ t, step idleWithOffer = .next t := ⟨_, rfl⟩

/-- A tick for each of the six changes. -/
theorem witness_StatusBitsChangeOnlyWhereStated :
    (∃ t, step idleWithOffer = .next t ∧ idleWithOffer.disp.dir = false ∧ t.disp.dir = true) ∧
    (∃ t, step ((tickIn .sending rise quietTick).setDir true) = .next t ∧
      ((tickIn .sending rise quietTick).setDir true).disp.dir = true ∧ t.disp.dir = false) ∧
    (∃ t, step writeEnds = .next t ∧ writeEnds.disp.oe = false ∧ t.disp.oe = true ∧
      writeEnds.disp.rxValid = false ∧ t.disp.rxValid = true) ∧
    (∃ t, step waitingForWrite = .next t ∧ waitingForWrite.disp.oe = true ∧ t.disp.oe = false) ∧
    ∃ t, step (presented.withInput (answer 4)) = .next t ∧
      (presented.withInput (answer 4)).disp.rxValid = true ∧ t.disp.rxValid = false :=
  ⟨⟨_, rfl, rfl, rfl⟩, ⟨_, rfl, rfl, rfl⟩, ⟨_, rfl, rfl, rfl, rfl, rfl⟩, ⟨_, rfl, rfl, rfl⟩, _, rfl, rfl, rfl⟩

theorem witness_PollFindsTheLeastRequester :
    (tickIn .idle high (offer 14 5 0)).requests 14 = true ∧ (tickIn .idle high quietTick).poll = none := by decide

/-- Two ticks that differ in the clock, in the data lines, in the Tx Codec and in the raw chip-select. -/
theorem witness_DispatcherIgnoresClockAndData :
    let s := (tickIn .sendData 0b1000 (TickIn.host true true 0)).setTx 0 0
    let s' := (tickIn .sendData 0b1001 (TickIn.host false false 9)).setTx sample 5
    s.disp = s'.disp ∧ s.slots = s'.slots ∧ s.rx = s'.rx ∧ s.cond.csPrev = s'.cond.csPrev ∧ s.csS = s'.csS ∧
    s.input.periphs = s'.input.periphs ∧ s.input.unregReady = s'.input.unregReady ∧
    (∃ t, step s = .next t) ∧ ∃ t', step s' = .next t' :=
  ⟨rfl, rfl, rfl, rfl, rfl, rfl, rfl, ⟨_, rfl⟩, _, rfl⟩

/-- The second tick has a `valid` at the inbound-only slot 2. -/
theorem witness_AbsentInputsAreNeverRead :
    let s := idleWithOffer
    let s' := s.withInput ((offer 1 5 sample).withPeriph 2 ⟨true, written, 3, false⟩)
    s.StatusInv ∧ s.cond = s'.cond ∧ s.rx = s'.rx ∧ s.tx = s'.tx ∧ s.disp = s'.disp ∧ s.slots = s'.slots ∧
    s.input.csRaw = s'.input.csRaw ∧ s.input.clkRaw = s'.input.clkRaw ∧ s.input.dqIn = s'.input.dqIn ∧
    s.input.unregReady = s'.input.unregReady ∧ s.input ≠ s'.input ∧
    (∀ i, s.slots.canSend i = true →
      (s.input.periph i).valid = (s'.input.periph i).valid ∧ (s.input.periph i).pkt = (s'.input.periph i).pkt ∧
        (s.input.periph i).bc = (s'.input.periph i).bc) ∧
    (∀ i, s.slots.canReceive i = true → (s.input.periph i).ready = (s'.input.periph i).ready) ∧
    (∃ t, step s = .next t) ∧ ∃ t', step s' = .next t' := by
  refine ⟨by constructor <;> decide, rfl, rfl, rfl, rfl, rfl, rfl, rfl, rfl, rfl, by decide, ?_, ?_, ⟨_, rfl⟩, _, rfl⟩
  all_goals
    intro i h
    by_cases hi : i < 15
    · interval_cases i <;> revert h <;> decide
    · have hn : idleWithOffer.slots.slot i = none := by
        unfold SlotTable.slot
        exact if_neg hi
      simp [SlotTable.canSend, SlotTable.canReceive, hn] at h

theorem witness_StrobesAreExclusive :
    presented.StatusInv ∧ presented.valid 4 = true ∧ periphEventNow.ack 1 = true ∧
    ∃ t, step periphEventNow = .next t :=
  ⟨by constructor <;> decide, by decide, by decide, _, rfl⟩

theorem witness_UnreadyPeripheralStallsTheEngine :
    presented.disp.fsm = .receiveHandshake ∧ ∃ vs t, Path presented vs t ∧
      (decide (∀ v ∈ vs, v.readyEff = false) && decide (vs.length = 2)) = true :=
  ⟨rfl, path_where 2 _ _ (by decide)⟩

theorem witness_PresentedPacketIsStable :
    ∃ vs t, Path presented vs t ∧
      (decide (∀ v ∈ vs, ¬(v.disp.fsm = .receiving ∧ v.csRise = true)) && decide (vs.length = 2)) = true :=
  path_where 2 _ _ (by decide)

theorem witness_GrantedEventRunsToItsEnd :
    dummyReadEnds.disp.fsm.outbound = true ∧ ∃ vs t, Path dummyReadEnds vs t ∧
      (decide (∀ v ∈ vs, ¬(v.disp.fsm = .sending ∧ v.csRise = true)) && decide (t.disp.fsm = .sendData)) = true :=
  ⟨rfl, path_where 2 _ _ (by decide)⟩

/-- The engine with no slot registered, after its first tick. -/
theorem witness_IdleEngineStaysAtRest :
    let s := { State.resetWith emptySlots [quietTick, quietTick] with disp := idleWithOffer.disp }
    s.atRest ∧ s.cond.csFf0 = true ∧ ∃ v t, Path s [s, v] t ∧
      ∀ u ∈ [s, v], u.input.csRaw = true ∧ ∀ i, u.requests i = false := by
  have hr : ∀ u : State, u.slots = emptySlots → ∀ i, u.requests i = false := by
    intro u hu i
    have hs : emptySlots.slot i = none := by
      unfold SlotTable.slot
      split
      · rename_i hi
        have hi : i < 15 := hi
        interval_cases i <;> rfl
      · rfl
    simp [State.requests, SlotTable.canSend, hu, hs]
  refine ⟨⟨rfl, rfl, hr _ rfl, rfl, rfl, by decide, rfl, rfl, rfl⟩, rfl, _, _, ⟨rfl, _, rfl, rfl, _, rfl, rfl⟩, ?_⟩
  intro u hu
  rcases List.mem_cons.mp hu with rfl | hu
  · exact ⟨rfl, hr _ rfl⟩
  · cases List.mem_singleton.mp hu
    exact ⟨rfl, hr _ rfl⟩

/-- One state for each kind of transaction but the last, and OK_TO_SEND for the ignored one. -/
theorem witness_HeaderReadAgreesWithTheBranch :
    let u := fun (f : Fsm) (h : WireByte) (id : PeriphId) (v d o : Bool) =>
      { tickIn f fall quietTick with disp := ⟨f, withTopByte 0 h, 0, v, 0, 0, 0, id, d, o⟩ }
    (∀ x ∈ [u .idle 0xF0 0 false false true, u .waitStmData 0xF0 0 false false true,
        u .receiveHandshake 0xFF 0 true false true, u .sendEvent 0x51 1 false true true,
        u .sendData 0xA0 1 false true true, u .okToSend 0xF0 0 false false true],
      x.StatusInv ∧ x.csFall = true ∧ ∃ s, step x = .next s) ∧
    [u .idle 0xF0 0 false false true, u .waitStmData 0xF0 0 false false true,
        u .receiveHandshake 0xFF 0 true false true, u .sendEvent 0x51 1 false true true,
        u .sendData 0xA0 1 false true true, u .okToSend 0xF0 0 false false true].map
      (fun x => transactionKind x.disp.fsm) =
      [.writeProbe, .realWrite, .followUpProbe, .dummyRead, .realRead, .ignored] := by
  refine ⟨?_, rfl⟩
  intro x hx
  simp only [List.mem_cons, List.mem_nil_iff, or_false] at hx
  rcases hx with rfl | rfl | rfl | rfl | rfl | rfl <;> exact ⟨by constructor <;> decide, rfl, _, rfl⟩

/-- A run cut into its transactions: a write of two symbols in its place, and the same made at the wrong time. -/
theorem test_transactions_of_a_run :
    (run 5 (fastWrite [0, 4])).any (fun r =>
      ((transactionsOf none r.1).map fun x => (x.1.length, x.2.csRise, sampled x.1)) == [(4, true, [0, 4])] &&
        keepsSequence table .realWrite [.write [0, 4]] (transactionsOf none r.1) &&
        !hostKeepsProtocol table [.write [0, 4]] r.1) = true := by decide

/-- A write of two symbols, the shortest, and one of four, to slot 4. -/
theorem witness_HostWriteIsDelivered :
    ∀ qs, qs = [0, 4] ∨ qs = [0xA, 5, 0, 4] →
      (fastWrite qs).LineInv ∧ (fastWrite qs).disp.fsm = .waitStmData ∧ (fastWrite qs).csFall = true ∧
      ∃ vs t, Path (fastWrite qs) vs t ∧
        (decide (∀ v ∈ vs, v.csS = false) && decide (t.csS = true) && decide (sampled vs = qs) &&
          (nextOf t).any fun d => (fastWrite qs).slots.canReceive d.disp.destId.toNat) = true ∧
        legalWriteLength qs.length := by
  rintro qs (rfl | rfl)
  · obtain ⟨vs, t, h⟩ := path_where 4 (fastWrite [0, 4]) (fun vs t =>
      (decide (∀ v ∈ vs, v.csS = false) && decide (t.csS = true) && decide (sampled vs = [0, 4]) &&
          (nextOf t).any fun d => (fastWrite [0, 4]).slots.canReceive d.disp.destId.toNat)) (by decide)
    exact ⟨by constructor <;> decide, rfl, rfl, vs, t, h.1, h.2, by unfold legalWriteLength; decide⟩
  · obtain ⟨vs, t, h⟩ := path_where 8 (fastWrite [0xA, 5, 0, 4]) (fun vs t =>
      (decide (∀ v ∈ vs, v.csS = false) && decide (t.csS = true) && decide (sampled vs = [0xA, 5, 0, 4]) &&
          (nextOf t).any fun d => (fastWrite [0xA, 5, 0, 4]).slots.canReceive d.disp.destId.toNat)) (by decide)
    exact ⟨by constructor <;> decide, rfl, rfl, vs, t, h.1, h.2, by unfold legalWriteLength; decide⟩

theorem witness_BusTurnaroundTakesOneTick :
    let s := { tickIn .okToSend rise quietTick with disp := { waitingForWrite.disp with fsm := .okToSend } }
    s.StatusInv ∧ s.disp.fsm = .okToSend ∧ s.csRise = true ∧ ∃ v t, Path s [s, v] t :=
  ⟨by constructor <;> decide, rfl, rfl, _, _, rfl, _, rfl, rfl, _, rfl, rfl⟩

/-- Chip-select was sampled high for one tick only. -/
theorem witness_TooShortGapSendsStaleBytes :
    let s := { dummyReadEnds with cond := ⟨false, true, false, false, false, false⟩ }
    s.disp.fsm = .sendingEvent ∧ s.csRise = true ∧ ∃ v t, Path s [s, v] t ∧ v.csFall = true :=
  ⟨rfl, rfl, _, _, ⟨rfl, _, rfl, rfl, _, rfl, rfl⟩, rfl⟩

/-- Two calls for one id, the second wins; an id above the table's range. -/
theorem witness_LastRegistrationWins :
    (emptySlots.registerAll [(4, ⟨true, false⟩), (4, ⟨false, true⟩), (14, ⟨true, true⟩)]).isSome = true ∧
    emptySlots.registerAll [(4, ⟨true, false⟩), (15, ⟨false, true⟩)] = none ∧
    ∃ c ∈ [(4, Slot.mk true false), (15, Slot.mk false true)], emptySlots.numPeriphs.val ≤ c.1 := by
  decide

/-- The 32 symbols of P6, the longest write. -/
def longest : List Symbol := [0, 1, 2, 3, 4, 5, 6, 7, 8, 9, 10, 11, 12, 13, 14, 15, 0, 1, 2, 3, 4, 5, 6, 7, 8, 9, 10, 11,
  12, 13, 7, 4]

theorem witness_HostWriteIsDelivered_longest :
    legalWriteLength longest.length ∧ (fastWrite longest).LineInv ∧ ∃ vs t, Path (fastWrite longest) vs t ∧
      (decide (∀ v ∈ vs, v.csS = false) && decide (t.csS = true) && decide (sampled vs = longest) &&
        (nextOf t).any fun d => (fastWrite longest).slots.canReceive d.disp.destId.toNat) = true :=
  ⟨by unfold legalWriteLength; decide, by constructor <;> decide, path_where 64 _ _ (by decide +kernel)⟩

/-- A dummy read, in which the granted peripheral 1 holds its offer, and a read of no symbol. -/
theorem witness_ReadsReturnTheSnapshotFromTheTop :
    let s := fun n => { dummyReadEnds with
      cond := ⟨true, true, true, false, false, false⟩
      disp := { dummyReadEnds.disp with fsm := .sendEvent }
      script := withPeriphs 0 (fun _ => (offer 1 5 sample).periphs) (rd n) }
    (∃ vs t, Path (s 2) vs t ∧
      (decide (vs.map (fun v => (v.input.csRaw, v.input.clkRaw)) = (rd 2).map (fun x => (x.csRaw, x.clkRaw))) &&
        vs[2]?.isSome && vs.all (fun v => (v.input.periph 1).valid && v.dqOe) &&
        decide (probeByte vs = some 0x51)) = true) ∧
    ∃ vs t, Path (s 0) vs t ∧
      (decide (vs.map (fun v => (v.input.csRaw, v.input.clkRaw)) = (rd 0).map (fun x => (x.csRaw, x.clkRaw))) &&
        vs[2]?.isSome) = true :=
  ⟨path_where 20 _ _ (by decide), path_where 4 _ _ (by decide)⟩

end Sys2Proof.Tests
end

section
/-! What the outputs of 10_state.md R47 read: an equivalence for each output that is a condition on the registers, and
the table of R47 assembled from them. -/

namespace Sys2Proof
namespace Machine

/-- R47, R191: one inbound-capable slot, the addressed one, sees `rx_valid`. -/
theorem valid_iff (s : State) (i : Nat) :
    s.valid i = true ↔ s.slots.canReceive i = true ∧ s.disp.rxValid = true ∧ s.disp.destId.toNat = i := by
  simp only [State.valid, Bool.and_eq_true, beq_iff_eq]

/-- R47, R193: one outbound-capable slot, the granted one, sees the ack, in PERIPH_EVENT. -/
theorem ack_iff (s : State) (i : Nat) :
    s.ack i = true ↔ s.slots.canSend i = true ∧ s.disp.fsm = .periphEvent ∧ s.disp.evtId.toNat = i := by
  simp only [State.ack, Bool.and_eq_true, beq_iff_eq]

/-- R47: the Rx codec is ready at a full packet of symbols. -/
theorem rxReady_iff (s : State) : s.rxReady = true ↔ s.rx.cnt.toNat = 32 := by
  obtain ⟨-, hnSym, -, -⟩ := default_widths
  simp only [State.rxReady, hnSym, beq_iff_eq]

/-- Where the slot has an inbound side, `valid[i]` depends on the Dispatcher's registers alone. -/
theorem valid_iff_of_canReceive {s : State} {i : Nat} (hrecv : s.slots.canReceive i = true) :
    s.valid i = true ↔ s.disp.rxValid = true ∧ s.disp.destId.toNat = i :=
  (valid_iff s i).trans (and_iff_right hrecv)

/-- Where the slot has an outbound side, `ack[i]` depends on the Dispatcher's registers alone. -/
theorem ack_iff_of_canSend {s : State} {i : Nat} (hsend : s.slots.canSend i = true) :
    s.ack i = true ↔ s.disp.fsm = .periphEvent ∧ s.disp.evtId.toNat = i :=
  (ack_iff s i).trans (and_iff_right hsend)

/-- Settles O21: the six register outputs are their registers by definition; `valid`, `ack` and `rx_ready` by their
equivalences. -/
theorem outputsAreRegisters : Obligations.OutputsAreRegisters := by
  intro s i
  exact ⟨rfl, rfl, rfl, rfl, rfl, rfl, valid_iff_of_canReceive, ack_iff_of_canSend, rxReady_iff s⟩

end Machine
end Sys2Proof
end

section
/-! What the Rx codec holds in a transaction (20_memory.md R63): the effect of one tick on its registers, the symbols
stacked by a run of ticks, and where each symbol of that stack lies. -/

namespace Sys2Proof
namespace Machine

/-- What RX_SHIFT makes of the Rx registers when the symbol `q` is sampled (R122). -/
def RxCodec.push (r : RxCodec) (q : Symbol) : RxCodec := ⟨shiftIn r.buf q, r.cnt + 1⟩

/-- The Rx registers after a tick: RX_CLEAR, RX_SHIFT or RX_HOLD (R121 to R123). -/
theorem step_rx {s t : State} (h : step s = .next t) :
    t.rx = if s.csS then ⟨0, 0⟩ else if s.clkRise then s.rx.push s.input.dqIn else s.rx := by
  obtain ⟨a, b, c, d, -, hb, -, -, rfl⟩ := (step_next_iff s t).mp h
  rw [rxOp_controlVec] at hb
  rw [join_rx]
  split at hb
  · cases hb; simp [*]
  · split at hb
    · cases hb; simp [*, RxCodec.push]
    · cases hb; simp [*]

/-- A tick with the settled chip-select low samples `dq_in` at a clock edge and nothing otherwise. -/
theorem step_rx_of_selected {s t : State} (h : step s = .next t) (hcs : s.csS = false) :
    t.rx = if s.rxEdge then s.rx.push s.input.dqIn else s.rx := by
  simpa [hcs, State.rxEdge, State.active] using step_rx h

theorem sampled_cons (v : State) (vs : List State) :
    sampled (v :: vs) = if v.rxEdge then v.input.dqIn :: sampled vs else sampled vs := by
  cases hv : v.rxEdge <;> simp [sampled, hv]

/-- A run of ticks with the settled chip-select low pushes the sampled symbols, in the order they were sent. -/
theorem path_rx_of_selected {s t : State} {vs : List State} (hp : Path s vs t) (hcs : ∀ v ∈ vs, v.csS = false) :
    t.rx = (sampled vs).foldl RxCodec.push s.rx := by
  induction vs generalizing s with
  | nil => obtain rfl := hp; rfl
  | cons v vs ih =>
    obtain ⟨rfl, u, hu, hrest⟩ := (path_cons _ _ _ _).mp hp
    rw [ih hrest fun w hw => hcs w (List.mem_cons_of_mem _ hw),
      step_rx_of_selected hu (hcs s List.mem_cons_self), sampled_cons]
    split <;> rfl

/-- Each symbol counts one, modulo 64 (R122). -/
theorem foldl_push_cnt (qs : List Symbol) (r : RxCodec) :
    (qs.foldl RxCodec.push r).cnt.toNat = (r.cnt.toNat + qs.length) % 64 := by
  induction qs generalizing r with
  | nil => exact (Nat.mod_eq_of_lt r.cnt.isLt).symm
  | cons q qs ih =>
    have hpush : (r.push q).cnt.toNat = (r.cnt.toNat + 1) % 64 := BitVec.toNat_add r.cnt 1
    rw [List.foldl_cons, ih, hpush, List.length_cons]
    omega

theorem symbolFromTop_shiftIn_zero (p : Packet) (q : Symbol) : symbolFromTop (shiftIn p q) 0 = q := by
  simpa [symbolFromTop] using shiftIn_top p q

/-- A symbol that enters on top moves each earlier one down a place; the one at place 31 is dropped. -/
theorem symbolFromTop_shiftIn_succ (p : Packet) (q : Symbol) {k : Nat} (hk : k < 31) :
    symbolFromTop (shiftIn p q) (k + 1) = symbolFromTop p k := by
  apply BitVec.eq_of_getLsbD_eq
  intro i hi
  simp only [symbolFromTop, shiftIn, BitVec.getLsbD_extractLsb', BitVec.getLsbD_shiftLeft, BitVec.getLsbD_append]
  have hbelow : 124 + i - 4 * (k + 1) < 124 := by omega
  have hplace : 4 + (124 + i - 4 * (k + 1)) = 124 + i - 4 * k := by omega
  have hsucc : ¬ 124 + i < 4 * (k + 1) := by omega
  have hk' : ¬ 124 + i < 4 * k := by omega
  simp [hbelow, hplace, hsucc, hk']

theorem symbolFromTop_clearPacket (k : Nat) : symbolFromTop 0 k = 0 := by
  simp [symbolFromTop]

/-- In an Rx buffer that was clear, symbol `j` from the top is the one pushed `j` places before the last, and 0 where
there was none (R63). -/
theorem symbolFromTop_foldl_push (qs : List Symbol) (n : SymCount) {j : Nat} (hj : j < 32) :
    symbolFromTop (qs.foldl RxCodec.push ⟨0, n⟩).buf j = qs.reverse[j]?.getD 0 := by
  induction qs using List.reverseRecOn generalizing j with
  | nil => exact symbolFromTop_clearPacket j
  | append_singleton qs q ih =>
    rw [List.foldl_append, List.reverse_append]
    cases j with
    | zero => exact symbolFromTop_shiftIn_zero _ q
    | succ k => exact (symbolFromTop_shiftIn_succ _ q (by omega)).trans (ih (by omega))

/-- Settles O27: the tick with chip-select high clears the Rx registers, the run pushes the sampled symbols on them, and
the count and each symbol's place are those of the pushed symbols. -/
theorem receivedSymbolsStackDownwards : Obligations.ReceivedSymbolsStackDownwards := by
  intro u s vs t hu hstep hp hcs hlen
  have hclear : s.rx = ⟨0, 0⟩ := by simpa [hu] using step_rx hstep
  have hrx : t.rx = (sampled vs).foldl RxCodec.push ⟨0, 0⟩ := hclear ▸ path_rx_of_selected hp hcs
  have hsymbol : ∀ j, j < 32 → symbolFromTop t.rx.buf j = (sampled vs).reverse[j]?.getD 0 := fun j hj =>
    hrx ▸ symbolFromTop_foldl_push (sampled vs) 0 hj
  refine ⟨?count, fun j hj => ?sent, fun j hj => ?below⟩
  case count =>
    rw [hrx, foldl_push_cnt]
    change (0 + (sampled vs).length) % 64 = (sampled vs).length
    omega
  case sent =>
    have hget : j < (sampled vs).reverse.length := by rwa [List.length_reverse]
    rw [hsymbol j (by omega), List.getElem?_eq_getElem hget, Option.getD_some]
  case below =>
    rcases Nat.lt_or_ge j 32 with hj32 | hj32
    · have hget : (sampled vs).reverse.length ≤ j := by rwa [List.length_reverse]
      rw [hsymbol j hj32, List.getElem?_eq_none hget, Option.getD_none]
    · exact symbolFromTop_beyond _ j hj32

end Machine
end Sys2Proof
end

section
/-! The codecs' decode over the control vector (30_encoding.md R97, R98): which bits each CTL4 row reads, and that the
word of a control vector decodes to the operation of its first fitting row. -/

namespace Sys2Proof

/-- A control vector fits a row bit by bit; where the mask is 0 the bit is not read. -/
theorem fits_iff (c mask pattern : ControlVec) :
    fits c mask pattern = true ↔
      (c.getLsbD 3 && mask.getLsbD 3) = pattern.getLsbD 3 ∧ (c.getLsbD 2 && mask.getLsbD 2) = pattern.getLsbD 2 ∧
      (c.getLsbD 1 && mask.getLsbD 1) = pattern.getLsbD 1 ∧ (c.getLsbD 0 && mask.getLsbD 0) = pattern.getLsbD 0 := by
  simp only [fits, beq_iff_eq, ← BitVec.getLsbD_and]
  constructor
  · rintro rfl
    exact ⟨rfl, rfl, rfl, rfl⟩
  · rintro ⟨h3, h2, h1, h0⟩
    refine BitVec.eq_of_getLsbD_eq fun i hi => ?_
    interval_cases i <;> assumption

/-- The pattern `-1--`, the first row of both codecs. -/
theorem fits_clear_iff (c : ControlVec) : fits c 0b0100 0b0100 = true ↔ c.getLsbD 2 = true := by
  simp [fits_iff]

/-- The pattern `-001` of RX_SHIFT. -/
theorem fits_rxShift_iff (c : ControlVec) :
    fits c 0b0111 0b0001 = true ↔ c.getLsbD 2 = false ∧ c.getLsbD 1 = false ∧ c.getLsbD 0 = true := by
  simp [fits_iff]

/-- The pattern `10--` of TX_LOAD. -/
theorem fits_txLoad_iff (c : ControlVec) :
    fits c 0b1100 0b1000 = true ↔ c.getLsbD 3 = true ∧ c.getLsbD 2 = false := by
  simp [fits_iff]

/-- A row without don't-care bits fits its own vector alone; TX_SHIFT has such a row. -/
theorem fits_allOnes_iff (c pattern : ControlVec) : fits c 0b1111 pattern = true ↔ c = pattern := by
  have hmask : (0b1111 : ControlVec) = BitVec.allOnes 4 := rfl
  simp only [fits, hmask, BitVec.and_allOnes, beq_iff_eq]

/-- The byte of a 4-bit code has no bit set above bit 3. -/
@[simp] theorem fourBits_setWidth (k : Component) (v : BitVec 4) : fourBits k (v.setWidth 8) = .ok v := by
  have hlt : (v.setWidth 8).toNat < 16 := (BitVec.toNat_setWidth_of_le (by decide)).trans_lt v.isLt
  rw [fourBits, if_pos hlt, BitVec.setWidth_setWidth_of_le v (by decide), BitVec.setWidth_eq]

theorem decode_rxCodec (c : ControlVec) : decode .rxCodec [c.setWidth 8] = .ok (rxOp c) := by
  simp [decode]

theorem decode_txCodec (c : ControlVec) : decode .txCodec [c.setWidth 8] = .ok (txOp c) := by
  simp [decode]

/-- Settles O9: the decode is `rxOp`, whose two rows read the bits of their patterns; the second is tried where
`cs_s` is clear. -/
theorem rxDecodeFollowsItsPatterns : Obligations.RxDecodeFollowsItsPatterns := by
  intro c
  simp only [decode_rxCodec, rxOp, fits_clear_iff, fits_rxShift_iff]
  refine ⟨fun hcs => ?clear, fun hcs hprev hclk => ?shift, fun hcs hno => ?hold⟩
  case clear => rw [if_pos hcs]
  case shift => rw [if_neg (ne_true_of_eq_false hcs), if_pos ⟨hcs, hprev, hclk⟩]
  case hold =>
    have hnoShift : ¬ (c.getLsbD 2 = false ∧ c.getLsbD 1 = false ∧ c.getLsbD 0 = true) := by
      rintro ⟨-, hprev, hclk⟩
      exact hno.elim (ne_true_of_eq_false hprev) fun h => ne_true_of_eq_false h hclk
    rw [if_neg (ne_true_of_eq_false hcs), if_neg hnoShift]

/-- Settles O10: the decode is `txOp`, whose three rows read the bits of their patterns; TX_SHIFT's own vector has
neither `cs_prev` nor `cs_s` set, so it fits no earlier row. -/
theorem txDecodeFollowsItsPatterns : Obligations.TxDecodeFollowsItsPatterns := by
  intro c
  simp only [decode_txCodec, txOp, fits_clear_iff, fits_txLoad_iff, fits_allOnes_iff]
  refine ⟨fun hcs => ?clear, fun hprev hcs => ?load, fun hc => ?shift, fun hprev hcs hne => ?hold⟩
  case clear => rw [if_pos hcs]
  case load => rw [if_neg (ne_true_of_eq_false hcs), if_pos ⟨hprev, hcs⟩]
  case shift =>
    subst hc
    rfl
  case hold => rw [if_neg (ne_true_of_eq_false hcs), if_neg fun h => ne_true_of_eq_false hprev h.1, if_neg hne]

end Sys2Proof
end

section
/-! What the tick that ends a host write latches (30_encoding.md R83, R85): the Dispatcher's registers after it, the
byteCount over the integers, and the trailer byte's two fields. -/

namespace Sys2Proof
namespace Machine

/-- The Dispatcher's registers after a tick are those of its action (R51). -/
theorem step_disp {s t : State} (h : step s = .next t) : ∃ d, exec s.disp.fsm.op s = .next d ∧ t.disp = d.disp := by
  obtain ⟨a, b, c, d, -, -, -, hd, rfl⟩ := (step_next_iff s t).mp h
  exact ⟨d, hd, rfl⟩

/-- RECEIVING captures what was received in the tick in which it sees `cs_rise` (R158). -/
theorem step_disp_of_writeEnds {s t : State} (hfsm : s.disp.fsm = .receiving) (hrise : s.csRise = true)
    (h : step s = .next t) : t.disp = (s.capture.goto .receiveHandshake).disp := by
  obtain ⟨d, hd, hdisp⟩ := step_disp h
  have hexec : exec s.disp.fsm.op s = .next (s.capture.goto .receiveHandshake) := by
    rw [hfsm]
    exact congrArg Host.Outcome.next (if_pos hrise)
  rw [hexec] at hd
  cases hd
  exact hdisp

/-- R85 over the integers: a count of 0 or 1 symbols wraps to 31. -/
theorem inboundByteCount_toNat (cnt : SymCount) :
    ((inboundByteCount cnt).toNat : Int) = ((cnt.toNat * 4 / 8 : Nat) - 1 : Int) % 32 := by
  have hsub : (inboundByteCount cnt).toNat = (2 ^ 5 - 1 + cnt.toNat * 4 / 8 % 2 ^ 5) % 2 ^ 5 := by
    rw [inboundByteCount, BitVec.toNat_sub, BitVec.toNat_ofNat]
    rfl
  omega

/-- A slice of a slice that lies inside it is a slice of the whole. -/
theorem extractLsb'_of_extractLsb' {w len start n k : Nat} (x : BitVec w) (hinside : k + n ≤ len) :
    (x.extractLsb' start len).extractLsb' k n = x.extractLsb' (start + k) n := by
  apply BitVec.eq_of_getLsbD_eq
  intro i hi
  have hlen : k + i < len := by omega
  simp only [BitVec.getLsbD_extractLsb', hi, hlen, Nat.add_assoc, decide_true, Bool.true_and]

/-- The top byte of a packet is its trailer byte: id above flags (R82, R83). -/
theorem trailerOp_topByte (p : Packet) : trailerOp (topByte p) = .inbTrailer (trailerId p) (trailerFlags p) := by
  rw [trailerOp, topByte, extractLsb'_of_extractLsb' p (by decide), extractLsb'_of_extractLsb' p (by decide)]
  rfl

/-- Settles O37: the end of the write captures the byteCount of this tick's count, which is R85's formula. -/
theorem byteCountIsTheLengthLessTheTrailer : Obligations.ByteCountIsTheLengthLessTheTrailer := by
  intro s t hfsm hrise h
  rw [step_disp_of_writeEnds hfsm hrise h]
  exact inboundByteCount_toNat s.rx.cnt

/-- Settles O43: the end of the write captures both slices of `rx_buf`, and they are the fields of its top byte. -/
theorem trailerFieldsAreLatched : Obligations.TrailerFieldsAreLatched := by
  intro s t hfsm hrise h
  rw [step_disp_of_writeEnds hfsm hrise h]
  exact ⟨rfl, rfl, congrArg Except.ok (trailerOp_topByte s.rx.buf)⟩

end Machine
end Sys2Proof
end

section
/-! The Input Conditioner in a tick (40_input_conditioner.md R111, R112, R114): its registers after every tick, what each
chip-select edge says of the settled level, and that the history bit ends the edge. -/

namespace Sys2Proof
namespace Machine

/-- COND writes the Conditioner's registers alone, from the raw samples of this tick (R111, R112). -/
theorem exec_cond (s : State) : exec .cond s = .next { s with cond := s.cond.sample s.input.csRaw s.input.clkRaw } := rfl

/-- Every tick performs COND: no other operation of the tick reaches the Conditioner's registers (R51, R111). -/
theorem step_cond {s t : State} (h : step s = .next t) : t.cond = s.cond.sample s.input.csRaw s.input.clkRaw := by
  obtain ⟨a, b, c, d, ha, -, -, -, rfl⟩ := (step_next_iff s t).mp h
  cases (exec_cond s).symm.trans ha
  exact join_cond ..

/-- The history bit after a tick is the settled chip-select of that tick (R112). -/
theorem step_csPrev {s t : State} (h : step s = .next t) : t.cond.csPrev = s.csS :=
  congrArg Conditioner.csPrev (step_cond h)

theorem active_iff (s : State) : s.active = true ↔ s.csS = false := by
  simp [State.active]

/-- The falling edge is the first tick of a transaction (R114). -/
theorem active_of_csFall {s : State} (hfall : s.csFall = true) : s.active = true :=
  (active_iff s).mpr ((csFall_iff s).mp hfall).2

/-- The rising edge is the first tick after a transaction (R114). -/
theorem not_active_of_csRise {s : State} (hrise : s.csRise = true) : s.active = false := by
  obtain ⟨-, hcs⟩ := (csRise_iff s).mp hrise
  exact Bool.eq_false_iff.mpr fun hact => ne_true_of_eq_false ((active_iff s).mp hact) hcs

/-- The tick after a falling edge remembers a low level, from which nothing falls. -/
theorem csFall_lasts_one_tick {s t : State} (h : step s = .next t) (hfall : s.csFall = true) : t.csFall = false := by
  obtain ⟨-, hlow⟩ := (csFall_iff s).mp hfall
  have hprev : t.cond.csPrev = false := (step_csPrev h).trans hlow
  exact Bool.eq_false_iff.mpr fun hagain => ne_true_of_eq_false hprev ((csFall_iff t).mp hagain).1

/-- The tick after a rising edge remembers a high level, from which nothing rises. -/
theorem csRise_lasts_one_tick {s t : State} (h : step s = .next t) (hrise : s.csRise = true) : t.csRise = false := by
  obtain ⟨-, hhigh⟩ := (csRise_iff s).mp hrise
  have hprev : t.cond.csPrev = true := (step_csPrev h).trans hhigh
  exact Bool.eq_false_iff.mpr fun hagain => ne_true_of_eq_false ((csRise_iff t).mp hagain).1 hprev

/-- Settles O22: COND's answer is the state with its own registers shifted, and a tick's Conditioner is COND's. -/
theorem condShiftsTheControlPair : Obligations.CondShiftsTheControlPair := by
  intro s
  have hframe : sameButCond s { s with cond := s.cond.sample s.input.csRaw s.input.clkRaw } :=
    ⟨rfl, rfl, rfl, rfl, rfl, rfl⟩
  exact ⟨_, exec_cond s, hframe, rfl, rfl, rfl, rfl, rfl, rfl, fun _ hstep => step_cond hstep⟩

/-- Settles O23: the edges read the history bit and the settled level, which exclude each other's edge and fix `active`;
an edge is over in the next tick because that level is then the history bit. -/
theorem chipSelectEdgesLastOneTick : Obligations.ChipSelectEdgesLastOneTick := by
  intro s
  have hexclusive : ¬ (s.csFall = true ∧ s.csRise = true) := fun ⟨hfall, hrise⟩ =>
    ne_true_of_eq_false (not_active_of_csRise hrise) (active_of_csFall hfall)
  exact ⟨csFall_iff s, csRise_iff s, hexclusive, active_of_csFall, not_active_of_csRise,
    fun _ hstep => ⟨csFall_lasts_one_tick hstep, csRise_lasts_one_tick hstep⟩⟩

end Machine
end Sys2Proof
end

section
/-! The Rx codec in a tick (41_rx_codec.md R121 to R124): what RX_CLEAR, RX_SHIFT and RX_HOLD leave in its registers, in
which ticks each runs, and what a tick makes of `rx_ready`. -/

namespace Sys2Proof
namespace Machine

/-- RX_CLEAR writes the Rx registers alone (R121). -/
theorem exec_rxClear (s : State) : exec .rxClear s = .next { s with rx := ⟨0, 0⟩ } := rfl

/-- RX_SHIFT writes the Rx registers alone, from `dq_in` of this tick (R122). -/
theorem exec_rxShift (s : State) : exec .rxShift s = .next { s with rx := s.rx.push s.input.dqIn } := rfl

theorem exec_rxHold (s : State) : exec .rxHold s = .next s := rfl

/-- The frame of an operation that replaces the Rx registers. -/
theorem sameButRx_with_rx (s : State) (r : RxCodec) : sameButRx s { s with rx := r } :=
  ⟨rfl, rfl, rfl, rfl, rfl, rfl⟩

/-- `rx_edge` is the condition of RX_SHIFT (R115, R122). -/
theorem rxEdge_iff (s : State) : s.rxEdge = true ↔ s.csS = false ∧ s.clkRise = true := by
  rw [State.rxEdge, Bool.and_eq_true, active_iff]

/-- The sampled symbol lies on top, the rest of the buffer has moved down a place, and one symbol more is counted. -/
theorem push_spec (r : RxCodec) (q : Symbol) :
    (r.push q).buf.extractLsb' 124 4 = q ∧ (r.push q).buf.extractLsb' 0 124 = r.buf.extractLsb' 4 124 ∧
    (r.push q).cnt.toNat = (r.cnt.toNat + 1) % 64 :=
  ⟨shiftIn_top r.buf q, shiftIn_rest r.buf q, foldl_push_cnt [q] r⟩

/-- A sampled symbol makes the count full where one was missing; the wrap at 63 gives 0. -/
theorem push_cnt_eq_full_iff (r : RxCodec) (q : Symbol) : (r.push q).cnt = 32 ↔ r.cnt = 31 :=
  BitVec.add_left_inj (x := r.cnt) (y := 31) 1

/-- `rx_ready` in terms of the counter itself (R124). -/
theorem rxReady_iff_cnt (s : State) : s.rxReady = true ↔ s.rx.cnt = 32 :=
  (rxReady_iff s).trans (BitVec.toNat_inj (x := s.rx.cnt) (y := 32))

/-- No other register reaches `rx_ready` (R124). -/
theorem rxReady_eq_of_rx_eq {s t : State} (h : t.rx = s.rx) : t.rxReady = s.rxReady :=
  congrArg (fun r : RxCodec => r.cnt.toNat == Config.nSym) h

/-- A clear codec holds no symbol, so it is not ready. -/
theorem clear_spec {t : State} (h : t.rx = ⟨0, 0⟩) : t.rx.buf = 0 ∧ t.rx.cnt = 0 ∧ t.rxReady = false := by
  have hcnt : t.rx.cnt = 0 := congrArg RxCodec.cnt h
  have hready : ¬ t.rxReady = true := fun hr => absurd (hcnt.symm.trans ((rxReady_iff_cnt t).mp hr)) (by decide)
  exact ⟨congrArg RxCodec.buf h, hcnt, Bool.eq_false_iff.mpr hready⟩

/-- RX_CLEAR's ticks (R121). -/
theorem step_rx_of_csHigh {s t : State} (h : step s = .next t) (hcs : s.csS = true) : t.rx = ⟨0, 0⟩ :=
  (step_rx h).trans (if_pos hcs)

/-- RX_SHIFT's ticks (R122). -/
theorem step_rx_of_rxEdge {s t : State} (h : step s = .next t) (hedge : s.rxEdge = true) :
    t.rx = s.rx.push s.input.dqIn :=
  (step_rx_of_selected h ((rxEdge_iff s).mp hedge).1).trans (if_pos hedge)

/-- RX_HOLD's ticks (R123). -/
theorem step_rx_of_noEdge {s t : State} (h : step s = .next t) (hcs : s.csS = false) (hedge : s.rxEdge = false) :
    t.rx = s.rx :=
  (step_rx_of_selected h hcs).trans (if_neg (ne_true_of_eq_false hedge))

/-- Settles O25: each operation's answer is the state with other Rx registers, and a tick's Rx registers are those of
the one operation whose condition it meets. -/
theorem rxMicroOperations : Obligations.RxMicroOperations := by
  refine ⟨fun s => ?clear, fun s => ?shift, exec_rxHold, fun s t h => ⟨?tickClears, ?tickShifts, ?tickHolds⟩⟩
  case clear => exact ⟨_, exec_rxClear s, sameButRx_with_rx s _, clear_spec rfl⟩
  case shift => exact ⟨_, exec_rxShift s, sameButRx_with_rx s _, push_spec s.rx s.input.dqIn⟩
  case tickClears => exact fun hcs => clear_spec (step_rx_of_csHigh h hcs)
  case tickShifts =>
    intro hcs hrise
    rw [step_rx_of_rxEdge h ((rxEdge_iff s).mpr ⟨hcs, hrise⟩)]
    exact push_spec s.rx s.input.dqIn
  case tickHolds =>
    intro hcs hrise
    have hedge : s.rxEdge = false :=
      Bool.eq_false_iff.mpr fun hedge => ne_true_of_eq_false hrise ((rxEdge_iff s).mp hedge).2
    exact step_rx_of_noEdge h hcs hedge

/-- Settles O26: `rx_ready` reads the count, which a tick clears, counts up by one, or leaves as it was. -/
theorem rxReadyIsTheFullCount : Obligations.RxReadyIsTheFullCount := by
  refine fun s => ⟨rxReady_iff_cnt s, fun t h => ⟨fun hcs => ?clears, fun hedge => ?shifts, fun hcs hedge => ?holds⟩⟩
  case clears =>
    obtain ⟨-, -, hready⟩ := clear_spec (step_rx_of_csHigh h hcs)
    exact hready
  case shifts =>
    rw [rxReady_iff_cnt, step_rx_of_rxEdge h hedge]
    exact push_cnt_eq_full_iff s.rx s.input.dqIn
  case holds => exact rxReady_eq_of_rx_eq (step_rx_of_noEdge h hcs hedge)

end Machine
end Sys2Proof
end

section
/-! The Tx codec in a tick (42_tx_codec.md R136 to R139): what TX_CLEAR, TX_LOAD, TX_SHIFT and TX_HOLD leave in its
registers, and in which ticks each runs. -/

namespace Sys2Proof
namespace Machine

/-- What TX_SHIFT makes of the Tx registers (R138). -/
def TxCodec.shift (r : TxCodec) : TxCodec := ⟨shiftOut r.sh, r.cnt + 1⟩

/-- TX_CLEAR writes the Tx registers alone (R136). -/
theorem exec_txClear (s : State) : exec .txClear s = .next { s with tx := ⟨0, 0⟩ } := rfl

/-- TX_LOAD writes the Tx registers alone, from `tx_pkt` of this tick (R137). -/
theorem exec_txLoad (s : State) : exec .txLoad s = .next { s with tx := ⟨s.disp.txPkt, 0⟩ } := rfl

/-- TX_SHIFT writes the Tx registers alone (R138). -/
theorem exec_txShift (s : State) : exec .txShift s = .next { s with tx := s.tx.shift } := rfl

theorem exec_txHold (s : State) : exec .txHold s = .next s := rfl

/-- The frame of an operation that replaces the Tx registers. -/
theorem sameButTx_with_tx (s : State) (r : TxCodec) : sameButTx s { s with tx := r } :=
  ⟨rfl, rfl, rfl, rfl, rfl, rfl⟩

/-- All symbols but the first have moved up a place. -/
theorem shiftOut_rest (p : Packet) : (shiftOut p).extractLsb' 4 124 = p.extractLsb' 0 124 :=
  BitVec.extractLsb'_append_eq_left

/-- The place at the low end is filled with zeros. -/
theorem shiftOut_bottom (p : Packet) : (shiftOut p).extractLsb' 0 4 = 0 :=
  BitVec.extractLsb'_append_eq_right

/-- The register has moved up a place, zeros fill it from below, and one symbol more is counted, modulo 64. -/
theorem shift_spec (r : TxCodec) :
    r.shift.sh.extractLsb' 4 124 = r.sh.extractLsb' 0 124 ∧ r.shift.sh.extractLsb' 0 4 = 0 ∧
    r.shift.cnt.toNat = (r.cnt.toNat + 1) % 64 :=
  ⟨shiftOut_rest r.sh, shiftOut_bottom r.sh, BitVec.toNat_add r.cnt 1⟩

/-- The Tx registers after a tick: TX_CLEAR, TX_LOAD, TX_SHIFT or TX_HOLD (R136 to R139). -/
theorem step_tx {s t : State} (h : step s = .next t) :
    t.tx = if s.csS then ⟨0, 0⟩ else if s.cond.csPrev then ⟨s.disp.txPkt, 0⟩
      else if s.clkFall then s.tx.shift else s.tx := by
  obtain ⟨a, b, c, d, -, -, hc, -, rfl⟩ := (step_next_iff s t).mp h
  have hexec : exec (txOp s.controlVec) s = .next { s with tx := if s.csS then ⟨0, 0⟩
      else if s.cond.csPrev then ⟨s.disp.txPkt, 0⟩ else if s.clkFall then s.tx.shift else s.tx } := by
    rw [txOp_controlVec]
    split_ifs
    · exact exec_txClear s
    · exact exec_txLoad s
    · exact exec_txShift s
    · exact exec_txHold s
  cases hexec.symm.trans hc
  exact join_tx ..

/-- TX_CLEAR's ticks (R136). -/
theorem step_tx_of_csHigh {s t : State} (h : step s = .next t) (hcs : s.csS = true) : t.tx = ⟨0, 0⟩ :=
  (step_tx h).trans (if_pos hcs)

/-- TX_LOAD's ticks (R137): the packet loaded is that of the tick itself. -/
theorem step_tx_of_csFall {s t : State} (h : step s = .next t) (hfall : s.csFall = true) :
    t.tx = ⟨s.disp.txPkt, 0⟩ := by
  obtain ⟨hprev, hcs⟩ := (csFall_iff s).mp hfall
  rw [step_tx h, if_neg (ne_true_of_eq_false hcs), if_pos hprev]

/-- The later ticks of a transaction shift at a falling clock edge and hold otherwise (R138, R139). -/
theorem step_tx_of_staysLow {s t : State} (h : step s = .next t) (hcs : s.csS = false)
    (hprev : s.cond.csPrev = false) : t.tx = if s.clkFall then s.tx.shift else s.tx := by
  rw [step_tx h, if_neg (ne_true_of_eq_false hcs), if_neg (ne_true_of_eq_false hprev)]

/-- `dq_out` shows the top symbol of whatever the shift register holds (R140). -/
theorem dqOut_of_sh_eq {t : State} {p : Packet} (h : t.tx.sh = p) : t.dqOut = p.extractLsb' 124 4 :=
  congrArg (BitVec.extractLsb' 124 4) h

/-- Settles O29: each operation's answer is the state with other Tx registers, and a tick's Tx registers are those of
the one operation whose condition it meets. -/
theorem txMicroOperations : Obligations.TxMicroOperations := by
  refine ⟨fun s => ?clear, fun s => ?load, fun s => ?shift, exec_txHold,
    fun s t h => ⟨fun hcs => ?tickClears, fun hcs hprev => ?tickLoads, fun hcs hprev hclk => ?tickShifts,
      fun hcs hprev hclk => ?tickHolds⟩⟩
  case clear => exact ⟨_, exec_txClear s, sameButTx_with_tx s _, rfl, rfl⟩
  case load => exact ⟨_, exec_txLoad s, sameButTx_with_tx s _, rfl, rfl⟩
  case shift => exact ⟨_, exec_txShift s, sameButTx_with_tx s _, shift_spec s.tx⟩
  case tickClears =>
    have htx := step_tx_of_csHigh h hcs
    have hsh : t.tx.sh = 0 := congrArg TxCodec.sh htx
    exact ⟨hsh, congrArg TxCodec.cnt htx, (dqOut_of_sh_eq hsh).trans BitVec.extractLsb'_zero⟩
  case tickLoads =>
    have htx := step_tx_of_csFall h ((csFall_iff s).mpr ⟨hprev, hcs⟩)
    have hsh : t.tx.sh = s.disp.txPkt := congrArg TxCodec.sh htx
    exact ⟨hsh, congrArg TxCodec.cnt htx, dqOut_of_sh_eq hsh⟩
  case tickShifts =>
    rw [step_tx_of_staysLow h hcs hprev, if_pos hclk]
    exact shift_spec s.tx
  case tickHolds => exact (step_tx_of_staysLow h hcs hprev).trans (if_neg (ne_true_of_eq_false hclk))

end Machine
end Sys2Proof
end

section
/-! What the Tx codec sends in a transaction (42_tx_codec.md R141): after the load its shift register depends on nothing
but the falling clock edges, so that the packet of the load tick goes out symbol by symbol. -/

namespace Sys2Proof
namespace Machine

/-- The symbol shifted out leaves the rest as a shift left by one symbol does. -/
theorem shift_sh (r : TxCodec) : r.shift.sh = r.sh <<< 4 := shiftOut_eq_shiftLeft r.sh

/-- One tick inside a transaction moves the shift register up a symbol for its falling clock edge, if it has one. -/
theorem step_sh_of_staysLow {s t : State} (h : step s = .next t) (hcs : s.csS = false)
    (hprev : s.cond.csPrev = false) : t.tx.sh = s.tx.sh <<< (4 * edges State.clkFall [s]) := by
  rw [step_tx_of_staysLow h hcs hprev]
  cases hclk : s.clkFall with
  | true => simp [edges, hclk, shift_sh]
  | false => simp [edges, hclk]

theorem edges_cons (p : State → Bool) (v : State) (vs : List State) :
    edges p (v :: vs) = edges p [v] + edges p vs :=
  List.countP_append (l₁ := [v])

/-- A run of ticks inside a transaction moves the shift register up a symbol for each of its falling clock edges. The
history bit keeps the load out: every tick hands on the low level it has seen. -/
theorem path_sh_of_staysLow {s t : State} {vs : List State} (hp : Path s vs t) (hprev : s.cond.csPrev = false)
    (hcs : ∀ v ∈ vs, v.csS = false) : t.tx.sh = s.tx.sh <<< (4 * edges State.clkFall vs) := by
  induction vs generalizing s with
  | nil =>
    obtain rfl := hp
    exact (BitVec.shiftLeft_zero _).symm
  | cons v vs ih =>
    obtain ⟨rfl, u, hu, hrest⟩ := (path_cons _ _ _ _).mp hp
    have hlow : s.csS = false := hcs s List.mem_cons_self
    have huprev : u.cond.csPrev = false := (step_csPrev hu).trans hlow
    calc t.tx.sh
        = u.tx.sh <<< (4 * edges State.clkFall vs) := ih hrest huprev fun w hw => hcs w (List.mem_cons_of_mem _ hw)
      _ = s.tx.sh <<< (4 * edges State.clkFall [s]) <<< (4 * edges State.clkFall vs) := by
          rw [step_sh_of_staysLow hu hlow hprev]
      _ = s.tx.sh <<< (4 * edges State.clkFall (s :: vs)) := by
          rw [edges_cons State.clkFall s vs, Nat.mul_add, BitVec.shiftLeft_add]

/-- Settles O30: the `cs_fall` tick loads the packet and leaves the history bit low, so that the run only shifts it;
`dq_out` is the top symbol of what was shifted. -/
theorem snapshotIsSentSymbolBySymbol : Obligations.SnapshotIsSentSymbolBySymbol := by
  refine ⟨symbolFromTop_beyond, fun u s vs t hfall hstep hp hcs => ?_⟩
  have hload : s.tx.sh = u.disp.txPkt := congrArg TxCodec.sh (step_tx_of_csFall hstep hfall)
  have hprev : s.cond.csPrev = false := (step_csPrev hstep).trans ((csFall_iff u).mp hfall).2
  have hsh : t.tx.sh = u.disp.txPkt <<< (4 * edges State.clkFall vs) := hload ▸ path_sh_of_staysLow hp hprev hcs
  exact ⟨hsh, dqOut_of_sh_eq hsh⟩

end Machine
end Sys2Proof
end

section
/-! The poll and the event header it leads to (43_dispatcher.md R153, 30_encoding.md R89): what the poll finds, and the
value and the id field of a granted event's header. -/

namespace Sys2Proof
namespace Machine

/-- R153: a request is an outbound-capable slot with a valid output. -/
theorem requests_iff (s : State) (i : Nat) :
    s.requests i = true ↔ s.slots.canSend i = true ∧ (s.input.periph i).valid = true := by
  simp only [State.requests, Bool.and_eq_true]

/-- R153: the poll's range of 15 ids loses no requester. -/
theorem poll_eq_some_iff (s : State) (i : Nat) :
    s.poll = some i ↔ s.requests i = true ∧ ∀ j < i, s.requests j = false := by
  simp only [State.poll, List.find?_range_eq_some, List.mem_range, Bool.not_eq_true']
  exact ⟨fun ⟨hreq, _, hleast⟩ => ⟨hreq, hleast⟩,
    fun ⟨hreq, hleast⟩ => ⟨hreq, requests_lt s i hreq, hleast⟩⟩

/-- R154: an unsuccessful poll means that no id at all requests. -/
theorem poll_eq_none_iff (s : State) : s.poll = none ↔ ∀ i, s.requests i = false := by
  simp only [State.poll, List.find?_range_eq_none, Bool.not_eq_true']
  exact ⟨fun h i => Bool.eq_false_iff.mpr fun hreq => ne_true_of_eq_false (h i (requests_lt s i hreq)) hreq,
    fun h i _ => h i⟩

/-- Only an outbound-capable slot is granted (R153). -/
theorem canSend_of_poll {s : State} {i : Nat} (hpoll : s.poll = some i) : s.slots.canSend i = true :=
  ((requests_iff s i).mp ((poll_eq_some_iff s i).mp hpoll).1).1

/-- A polled id fits the four bits of `evt_id`. -/
theorem poll_toNat {s : State} {i : Nat} (hpoll : s.poll = some i) : (BitVec.ofNat 4 i).toNat = i := by
  have hlt : i < 15 := requests_lt s i ((poll_eq_some_iff s i).mp hpoll).1
  rw [BitVec.toNat_ofNat]
  omega

/-- R89: the header's value is the byteCount modulo 16, a place above the id. -/
theorem eventHeader_toNat (bc : ByteCount) (i : PeriphId) :
    (eventHeader bc i).toNat = bc.toNat % 16 * 16 + i.toNat := by
  rw [eventHeader_eq_append, BitVec.toNat_append, ← Nat.shiftLeft_add_eq_or_of_lt i.isLt, BitVec.toNat_setWidth,
    Nat.shiftLeft_eq]

/-- R89: the low nibble of an event header is the id. -/
theorem eventHeader_id (bc : ByteCount) (i : PeriphId) : (eventHeader bc i).extractLsb' 0 4 = i := by
  rw [eventHeader_eq_append]
  exact BitVec.extractLsb'_append_eq_right

end Machine
end Sys2Proof
end

section
/-! The Dispatcher's actions, one by one (43_dispatcher.md R150 to R167): each answer as a write of the Dispatcher's
registers, and from these the statements about the single actions. -/

namespace Sys2Proof
namespace Machine

/-- The frame of an operation that replaces the Dispatcher's registers (R51). -/
theorem sameButDisp_with_disp (s : State) (d : Dispatcher) : sameButDisp s { s with disp := d } :=
  ⟨rfl, rfl, rfl, rfl, rfl, rfl⟩

/-- A header write sets the top byte and leaves the rest of the packet (R31). -/
theorem withTopByte_spec (p : Packet) (b : WireByte) :
    (withTopByte p b).extractLsb' 120 8 = b ∧ (withTopByte p b).extractLsb' 0 120 = p.extractLsb' 0 120 :=
  ⟨topByte_withTopByte p b, belowTop_withTopByte p b⟩

/-- The Dispatcher's registers after a tick in state `f` are those of `f`'s answer (R99). -/
theorem step_disp_of_exec {s t d : State} {f : Fsm} (hfsm : s.disp.fsm = f) (hexec : exec f.op s = .next d)
    (hstep : step s = .next t) : t.disp = d.disp := by
  obtain ⟨e, he, hdisp⟩ := step_disp hstep
  rw [hfsm] at he
  cases hexec.symm.trans he
  exact hdisp

/-! ## What each action answers -/

theorem exec_start (s : State) :
    exec .start s = .next { s with disp := { s.disp with
      fsm := .idle, txPkt := withTopByte s.disp.txPkt okToSendByte } } := rfl

theorem exec_idle_of_csFall {s : State} (hfall : s.csFall = true) :
    exec .idle s = .next { s with disp := { s.disp with fsm := .okToSend } } :=
  congrArg Host.Outcome.next (if_pos hfall)

theorem exec_idle_of_poll {s : State} {i : Nat} (hfall : s.csFall = false) (hpoll : s.poll = some i) :
    exec .idle s = .next { s with disp := { s.disp with
      fsm := .sendEvent, evtId := BitVec.ofNat 4 i, dir := true,
      txPkt := withTopByte s.disp.txPkt (eventHeader (s.input.periph i).bc (BitVec.ofNat 4 i)) } } := by
  simp only [exec, execIdle, hfall, hpoll, Bool.false_eq_true, if_false, grantEvent_spec]

theorem exec_idle_of_noRequest {s : State} (hfall : s.csFall = false) (hpoll : s.poll = none) :
    exec .idle s = .next s := by
  simp only [exec, execIdle, hfall, hpoll, Bool.false_eq_true, if_false]

theorem exec_okToSend (s : State) :
    exec .okToSend s = .next { s with disp := { s.disp with
      fsm := if s.csRise then .waitStmData else s.disp.fsm } } :=
  congrArg Host.Outcome.next (awaits_spec s s.csRise .waitStmData)

theorem exec_waitStmData (s : State) :
    exec .waitStmData s = .next { s with disp := { s.disp with
      oe := false, fsm := if s.csFall then .receiving else s.disp.fsm } } :=
  congrArg Host.Outcome.next (awaits_spec (s.setOe false) s.csFall .receiving)

theorem exec_receiving_of_csRise {s : State} (hrise : s.csRise = true) :
    exec .receiving s = .next { s with disp := { s.disp with
      fsm := .receiveHandshake, rxValid := true, rxPkt := s.rx.buf, oe := true,
      txPkt := withTopByte s.disp.txPkt notReadyByte, destId := trailerId s.rx.buf,
      rxFlags := trailerFlags s.rx.buf, rxBc := inboundByteCount s.rx.cnt } } :=
  congrArg Host.Outcome.next (if_pos hrise)

theorem exec_receiving_of_noRise {s : State} (hrise : s.csRise = false) : exec .receiving s = .next s :=
  congrArg Host.Outcome.next (if_neg (ne_true_of_eq_false hrise))

theorem exec_receiveHandshake_of_ready {s : State} (hready : s.readyEff = true) :
    exec .receiveHandshake s = .next { s with disp := { s.disp with fsm := .waitForTxn, rxValid := false } } :=
  congrArg Host.Outcome.next (if_pos hready)

theorem exec_receiveHandshake_of_notReady {s : State} (hready : s.readyEff = false) :
    exec .receiveHandshake s = .next s :=
  congrArg Host.Outcome.next (if_neg (ne_true_of_eq_false hready))

theorem exec_waitForTxn_of_csRise {s : State} (hrise : s.csRise = true) :
    exec .waitForTxn s = .next { s with disp := { s.disp with
      fsm := .idle, txPkt := withTopByte s.disp.txPkt okToSendByte } } :=
  congrArg Host.Outcome.next (if_pos hrise)

theorem exec_waitForTxn_of_noRise {s : State} (hrise : s.csRise = false) : exec .waitForTxn s = .next s :=
  congrArg Host.Outcome.next (if_neg (ne_true_of_eq_false hrise))

theorem exec_sendEvent (s : State) :
    exec .sendEvent s = .next { s with disp := { s.disp with
      fsm := if s.csFall then .sendingEvent else s.disp.fsm } } :=
  congrArg Host.Outcome.next (awaits_spec s s.csFall .sendingEvent)

theorem exec_sendingEvent (s : State) :
    exec .sendingEvent s = .next { s with disp := { s.disp with
      fsm := if s.csRise then .periphEvent else s.disp.fsm } } :=
  congrArg Host.Outcome.next (awaits_spec s s.csRise .periphEvent)

theorem exec_periphEvent (s : State) :
    exec .periphEvent s = .next { s with disp := { s.disp with
      fsm := .sendData, txPkt := (s.input.periph s.disp.evtId.toNat).pkt } } := rfl

theorem exec_sendData (s : State) :
    exec .sendData s = .next { s with disp := { s.disp with
      fsm := if s.csFall then .sending else s.disp.fsm } } :=
  congrArg Host.Outcome.next (awaits_spec s s.csFall .sending)

theorem exec_sending_of_csRise {s : State} (hrise : s.csRise = true) :
    exec .sending s = .next { s with disp := { s.disp with
      fsm := .idle, dir := false, txPkt := withTopByte s.disp.txPkt okToSendByte } } :=
  congrArg Host.Outcome.next (if_pos hrise)

theorem exec_sending_of_noRise {s : State} (hrise : s.csRise = false) : exec .sending s = .next s :=
  congrArg Host.Outcome.next (if_neg (ne_true_of_eq_false hrise))

/-! ## The statements about the single actions -/

/-- Settles O33: the three branches of IDLE, the second at the id that the poll finds. -/
theorem idlePriority : Obligations.IdlePriority := by
  intro s
  refine ⟨fun hfall => ?probe, fun hquiet i hsend hvalid hleast => ?grant, fun hquiet hnone => ?nothing⟩
  case probe => exact ⟨_, exec_idle_of_csFall hfall, sameButDisp_with_disp s _, rfl⟩
  case grant =>
    have hpoll : s.poll = some i := (poll_eq_some_iff s i).mpr ⟨(requests_iff s i).mpr ⟨hsend, hvalid⟩,
      fun j hj => Bool.eq_false_iff.mpr fun hreq => hleast j hj ((requests_iff s j).mp hreq)⟩
    have hid : (BitVec.ofNat 4 i).toNat = i := poll_toNat hpoll
    obtain ⟨htop, hrest⟩ := withTopByte_spec s.disp.txPkt (eventHeader (s.input.periph i).bc (BitVec.ofNat 4 i))
    refine ⟨_, exec_idle_of_poll hquiet hpoll, sameButDisp_with_disp s _, rfl, hid, ?_, hrest⟩
    rw [htop, eventHeader_toNat, hid]
  case nothing =>
    exact exec_idle_of_noRequest hquiet ((poll_eq_none_iff s).mpr fun i =>
      Bool.eq_false_iff.mpr fun hreq => hnone i ((requests_iff s i).mp hreq))

/-- Settles O34: each of the four actions answers with `fsm` replaced; the load is the Tx codec's at `cs_fall`. -/
theorem awaitingStatesMoveOnTheirEdge : Obligations.AwaitingStatesMoveOnTheirEdge := by
  intro s
  exact ⟨⟨_, exec_okToSend s, sameButDisp_with_disp s _, rfl⟩,
    ⟨_, exec_sendEvent s, sameButDisp_with_disp s _, rfl⟩,
    ⟨_, exec_sendingEvent s, sameButDisp_with_disp s _, rfl⟩,
    ⟨_, exec_sendData s, sameButDisp_with_disp s _, rfl⟩,
    fun _ hstep hfall => congrArg TxCodec.sh (step_tx_of_csFall hstep hfall)⟩

/-- Settles O36: both branches of RECEIVING; the byteCount is R85's, which wraps as an addition of 31 does. -/
theorem receivingCapturesTheWrite : Obligations.ReceivingCapturesTheWrite := by
  intro s
  refine ⟨fun hrise => ?_, exec_receiving_of_noRise⟩
  obtain ⟨htop, hrest⟩ := withTopByte_spec s.disp.txPkt notReadyByte
  have hbc : (inboundByteCount s.rx.cnt).toNat = (s.rx.cnt.toNat * 4 / 8 + 31) % 32 := by
    have hint := inboundByteCount_toNat s.rx.cnt
    omega
  exact ⟨_, exec_receiving_of_csRise hrise, sameButDisp_with_disp s _, rfl, htop, hrest, hbc⟩

/-- Settles O39: both branches of WAIT_FOR_TXN. -/
theorem waitForTxnRestoresTheHeader : Obligations.WaitForTxnRestoresTheHeader := by
  intro s
  refine ⟨fun hrise => ?_, exec_waitForTxn_of_noRise⟩
  exact ⟨_, exec_waitForTxn_of_csRise hrise, sameButDisp_with_disp s _, rfl, withTopByte_spec _ okToSendByte⟩

/-- Settles O40: PERIPH_EVENT leaves its state in the one tick in which the ack of `evt_id` shows it. -/
theorem periphEventCopiesThePacket : Obligations.PeriphEventCopiesThePacket := by
  refine ⟨fun s => ⟨_, exec_periphEvent s, sameButDisp_with_disp s _, rfl⟩, fun s t hfsm hstep => ?_⟩
  have hnext : t.disp.fsm = .sendData :=
    congrArg Dispatcher.fsm (step_disp_of_exec hfsm (exec_periphEvent s) hstep)
  have hnoAck (i : Nat) : t.ack i = false := by
    refine Bool.eq_false_iff.mpr fun hack => ?_
    obtain ⟨-, hstill, -⟩ := (ack_iff t i).mp hack
    cases hnext.symm.trans hstill
  exact ⟨hnext, hnoAck, fun hsend => (ack_iff_of_canSend hsend).mpr ⟨hfsm, rfl⟩⟩

/-- Settles O41: both branches of SENDING. -/
theorem sendingEndsTheEvent : Obligations.SendingEndsTheEvent := by
  intro s
  refine ⟨fun hrise => ?_, exec_sending_of_noRise⟩
  exact ⟨_, exec_sending_of_csRise hrise, sameButDisp_with_disp s _, rfl, withTopByte_spec _ okToSendByte⟩

end Machine
end Sys2Proof
end

section
/-! What the Dispatcher can do in a tick (43_dispatcher.md R168, R169): one case per row of the transition table, and
one for all the ticks in which a state waits. -/

namespace Sys2Proof
namespace Machine

/-- The state waits in this tick and no branch of it writes (R154, R159, R161, R168). WAIT_STM_DATA is not among these
states: it drops `oe` while it waits. -/
def State.dispWaits (s : State) : Bool :=
  match s.disp.fsm with
  | .start | .waitStmData | .periphEvent => false
  | .idle => !s.csFall && s.poll.isNone
  | .okToSend | .receiving | .waitForTxn | .sendingEvent | .sending => !s.csRise
  | .sendEvent | .sendData => !s.csFall
  | .receiveHandshake => !s.readyEff

/-- `DispStep s d`: the Dispatcher's registers may be `d` after tick `s`. -/
inductive DispStep (s : State) : Dispatcher → Prop where
  /-- START (R150). -/
  | starts (hfsm : s.disp.fsm = .start) :
    DispStep s { s.disp with fsm := .idle, txPkt := withTopByte s.disp.txPkt okToSendByte }
  /-- IDLE, `cs_fall` (R152). -/
  | probeBegins (hfsm : s.disp.fsm = .idle) (hfall : s.csFall = true) : DispStep s { s.disp with fsm := .okToSend }
  /-- IDLE, a request and no `cs_fall` (R153). -/
  | grants (i : PeriphId) (hfsm : s.disp.fsm = .idle) (hquiet : s.csFall = false) (hpoll : s.poll = some i.toNat) :
    DispStep s { s.disp with
      fsm := .sendEvent, evtId := i, dir := true,
      txPkt := withTopByte s.disp.txPkt (eventHeader (s.input.periph i.toNat).bc i) }
  /-- OK_TO_SEND, `cs_rise` (R155). -/
  | probeEnds (hfsm : s.disp.fsm = .okToSend) (hrise : s.csRise = true) :
    DispStep s { s.disp with fsm := .waitStmData }
  /-- WAIT_STM_DATA before `cs_fall` (R156). -/
  | dropsOe (hfsm : s.disp.fsm = .waitStmData) (hquiet : s.csFall = false) : DispStep s { s.disp with oe := false }
  /-- WAIT_STM_DATA, `cs_fall` (R156, R157). -/
  | writeBegins (hfsm : s.disp.fsm = .waitStmData) (hfall : s.csFall = true) :
    DispStep s { s.disp with oe := false, fsm := .receiving }
  /-- RECEIVING, `cs_rise` (R158). -/
  | writeEnds (hfsm : s.disp.fsm = .receiving) (hrise : s.csRise = true) :
    DispStep s { s.disp with
      fsm := .receiveHandshake, rxValid := true, rxPkt := s.rx.buf, oe := true,
      txPkt := withTopByte s.disp.txPkt notReadyByte, destId := trailerId s.rx.buf,
      rxFlags := trailerFlags s.rx.buf, rxBc := inboundByteCount s.rx.cnt }
  /-- RECEIVE_HANDSHAKE, ready (R160). -/
  | accepted (hfsm : s.disp.fsm = .receiveHandshake) (hready : s.readyEff = true) :
    DispStep s { s.disp with fsm := .waitForTxn, rxValid := false }
  /-- WAIT_FOR_TXN, `cs_rise` (R162). -/
  | followUpEnds (hfsm : s.disp.fsm = .waitForTxn) (hrise : s.csRise = true) :
    DispStep s { s.disp with fsm := .idle, txPkt := withTopByte s.disp.txPkt okToSendByte }
  /-- SEND_EVENT, `cs_fall` (R163). -/
  | dummyReadBegins (hfsm : s.disp.fsm = .sendEvent) (hfall : s.csFall = true) :
    DispStep s { s.disp with fsm := .sendingEvent }
  /-- SENDING_EVENT, `cs_rise` (R164). -/
  | dummyReadEnds (hfsm : s.disp.fsm = .sendingEvent) (hrise : s.csRise = true) :
    DispStep s { s.disp with fsm := .periphEvent }
  /-- PERIPH_EVENT (R165). -/
  | copiesPacket (hfsm : s.disp.fsm = .periphEvent) :
    DispStep s { s.disp with fsm := .sendData, txPkt := (s.input.periph s.disp.evtId.toNat).pkt }
  /-- SEND_DATA, `cs_fall` (R166). -/
  | readBegins (hfsm : s.disp.fsm = .sendData) (hfall : s.csFall = true) : DispStep s { s.disp with fsm := .sending }
  /-- SENDING, `cs_rise` (R167). -/
  | readEnds (hfsm : s.disp.fsm = .sending) (hrise : s.csRise = true) :
    DispStep s { s.disp with fsm := .idle, dir := false, txPkt := withTopByte s.disp.txPkt okToSendByte }
  /-- A state that waits writes nothing (R168). -/
  | waits (hwaits : s.dispWaits = true) : DispStep s s.disp

/-- IDLE's three branches in their priority order (R151). -/
theorem dispStep_of_exec_idle {s d : State} (hfsm : s.disp.fsm = .idle) (h : exec .idle s = .next d) :
    DispStep s d.disp := by
  cases hfall : s.csFall with
  | true =>
    cases (exec_idle_of_csFall hfall).symm.trans h
    exact .probeBegins hfsm hfall
  | false =>
    cases hpoll : s.poll with
    | none =>
      cases (exec_idle_of_noRequest hfall hpoll).symm.trans h
      exact .waits (by simp [State.dispWaits, hfsm, hfall, hpoll])
    | some i =>
      cases (exec_idle_of_poll hfall hpoll).symm.trans h
      obtain ⟨k, rfl⟩ : ∃ k : PeriphId, k.toNat = i := ⟨_, poll_toNat hpoll⟩
      simpa using DispStep.grants k hfsm hfall hpoll

/-- The action that `fsm` selects makes one of the moves. -/
theorem dispStep_of_exec {s d : State} (h : exec s.disp.fsm.op s = .next d) : DispStep s d.disp := by
  cases hfsm : s.disp.fsm <;> rw [hfsm] at h
  case start =>
    cases (exec_start s).symm.trans h
    exact .starts hfsm
  case idle => exact dispStep_of_exec_idle hfsm h
  case okToSend =>
    cases (exec_okToSend s).symm.trans h
    cases hrise : s.csRise with
    | true => exact .probeEnds hfsm hrise
    | false => exact .waits (by simp [State.dispWaits, hfsm, hrise])
  case waitStmData =>
    cases (exec_waitStmData s).symm.trans h
    cases hfall : s.csFall with
    | true => exact .writeBegins hfsm hfall
    | false => exact .dropsOe hfsm hfall
  case receiving =>
    cases hrise : s.csRise with
    | true =>
      cases (exec_receiving_of_csRise hrise).symm.trans h
      exact .writeEnds hfsm hrise
    | false =>
      cases (exec_receiving_of_noRise hrise).symm.trans h
      exact .waits (by simp [State.dispWaits, hfsm, hrise])
  case receiveHandshake =>
    cases hready : s.readyEff with
    | true =>
      cases (exec_receiveHandshake_of_ready hready).symm.trans h
      exact .accepted hfsm hready
    | false =>
      cases (exec_receiveHandshake_of_notReady hready).symm.trans h
      exact .waits (by simp [State.dispWaits, hfsm, hready])
  case waitForTxn =>
    cases hrise : s.csRise with
    | true =>
      cases (exec_waitForTxn_of_csRise hrise).symm.trans h
      exact .followUpEnds hfsm hrise
    | false =>
      cases (exec_waitForTxn_of_noRise hrise).symm.trans h
      exact .waits (by simp [State.dispWaits, hfsm, hrise])
  case sendEvent =>
    cases (exec_sendEvent s).symm.trans h
    cases hfall : s.csFall with
    | true => exact .dummyReadBegins hfsm hfall
    | false => exact .waits (by simp [State.dispWaits, hfsm, hfall])
  case sendingEvent =>
    cases (exec_sendingEvent s).symm.trans h
    cases hrise : s.csRise with
    | true => exact .dummyReadEnds hfsm hrise
    | false => exact .waits (by simp [State.dispWaits, hfsm, hrise])
  case periphEvent =>
    cases (exec_periphEvent s).symm.trans h
    exact .copiesPacket hfsm
  case sendData =>
    cases (exec_sendData s).symm.trans h
    cases hfall : s.csFall with
    | true => exact .readBegins hfsm hfall
    | false => exact .waits (by simp [State.dispWaits, hfsm, hfall])
  case sending =>
    cases hrise : s.csRise with
    | true =>
      cases (exec_sending_of_csRise hrise).symm.trans h
      exact .readEnds hfsm hrise
    | false =>
      cases (exec_sending_of_noRise hrise).symm.trans h
      exact .waits (by simp [State.dispWaits, hfsm, hrise])

/-- What a tick can make of the Dispatcher's registers (R169). -/
theorem step_dispStep {s t : State} (h : step s = .next t) : DispStep s t.disp := by
  obtain ⟨d, hd, hdisp⟩ := step_disp h
  exact hdisp ▸ dispStep_of_exec hd

/-- No tick writes the slot table (R40). -/
theorem step_slots {s t : State} (h : step s = .next t) : t.slots = s.slots := by
  obtain ⟨a, b, c, d, -, -, -, -, rfl⟩ := (step_next_iff s t).mp h
  exact join_slots ..

/-- START, WAIT_STM_DATA and PERIPH_EVENT write in every tick (R150, R156, R165). -/
theorem fsm_of_dispWaits {s : State} (h : s.dispWaits = true) :
    s.disp.fsm ≠ .start ∧ s.disp.fsm ≠ .waitStmData ∧ s.disp.fsm ≠ .periphEvent := by
  refine ⟨?_, ?_, ?_⟩ <;> intro hfsm <;> simp [State.dispWaits, hfsm] at h

end Machine
end Sys2Proof
end

section
/-! The status invariant (43_dispatcher.md R174, 10_state.md R44): each of its parts along the Dispatcher's moves, where
the moves that write the part's register are the cases with a reason of their own, and from the parts the invariant. -/

namespace Sys2Proof
namespace Machine

variable {s : State} {d : Dispatcher}

/-! ## `dir`, `rx_valid`, `oe` -/

/-- `dir` is raised by the grant and dropped by the event's end, the two moves into and out of the outbound half. -/
theorem DispStep.dir_eq_outbound (h : DispStep s d) (hdir : s.disp.dir = s.disp.fsm.outbound) :
    d.dir = d.fsm.outbound := by
  cases h with
  | grants => rfl
  | readEnds => rfl
  | waits => exact hdir
  | _ => simp_all [Fsm.outbound]

/-- `rx_valid` is raised by the move into RECEIVE_HANDSHAKE and dropped by the move out of it. -/
theorem DispStep.rxValid_eq_handshake (h : DispStep s d) (hvalid : s.disp.rxValid = (s.disp.fsm == .receiveHandshake)) :
    d.rxValid = (d.fsm == .receiveHandshake) := by
  cases h with
  | writeEnds => rfl
  | accepted => rfl
  | waits => exact hvalid
  | _ => simp_all

/-- RECEIVING is entered with `oe` dropped. -/
theorem DispStep.oe_of_receiving (h : DispStep s d) (hoe : s.disp.fsm = .receiving → s.disp.oe = false) :
    d.fsm = .receiving → d.oe = false := by
  cases h with
  | dropsOe => exact fun _ => rfl
  | writeBegins => exact fun _ => rfl
  | waits => exact hoe
  | _ => simp

/-- Outside WAIT_STM_DATA and RECEIVING `oe` is 1: RECEIVING is left with `oe` raised, WAIT_STM_DATA only to
RECEIVING. -/
theorem DispStep.oe_elsewhere (h : DispStep s d)
    (hoe : s.disp.fsm ≠ .waitStmData → s.disp.fsm ≠ .receiving → s.disp.oe = true) :
    d.fsm ≠ .waitStmData → d.fsm ≠ .receiving → d.oe = true := by
  cases h with
  | dropsOe hfsm => exact fun hout => absurd hfsm hout
  | writeBegins => exact fun _ hout => absurd rfl hout
  | writeEnds => exact fun _ _ => rfl
  | waits => exact hoe
  | _ => simp_all

/-- In WAIT_STM_DATA `oe` is 1 exactly on entry: it is dropped in every tick of the state (R156). -/
theorem DispStep.oe_of_waitStmData (h : DispStep s d)
    (hoe : s.disp.fsm ≠ .waitStmData → s.disp.fsm ≠ .receiving → s.disp.oe = true) :
    d.fsm = .waitStmData → d.oe = (s.disp.fsm != .waitStmData) := by
  cases h with
  | probeEnds hfsm => simp_all
  | dropsOe hfsm => simp [hfsm]
  | waits hwaits =>
    obtain ⟨-, hnot, -⟩ := fsm_of_dispWaits hwaits
    exact fun hfsm => absurd hfsm hnot
  | _ => simp

/-! ## The header -/

/-- No move leads to START. -/
theorem DispStep.fsm_ne_start (h : DispStep s d) : d.fsm ≠ .start := by
  cases h with
  | dropsOe hfsm => simp [hfsm]
  | waits hwaits =>
    obtain ⟨hnot, -, -⟩ := fsm_of_dispWaits hwaits
    exact hnot
  | _ => simp

/-- The moves into IDLE stage `OK_TO_SEND`, which stays until the write's end (R87). -/
theorem DispStep.hdr_okToSend (h : DispStep s d)
    (hhdr : s.disp.fsm.showsOkToSend = true → topByte s.disp.txPkt = okToSendByte) :
    d.fsm.showsOkToSend = true → topByte d.txPkt = okToSendByte := by
  cases h with
  | starts => exact fun _ => topByte_withTopByte ..
  | followUpEnds => exact fun _ => topByte_withTopByte ..
  | readEnds => exact fun _ => topByte_withTopByte ..
  | waits => exact hhdr
  | _ => simp_all [Fsm.showsOkToSend]

/-- The write's end stages `NOT_READY`, which stays until the follow-up probe's end (R88). -/
theorem DispStep.hdr_notReady (h : DispStep s d)
    (hhdr : s.disp.fsm.showsNotReady = true → topByte s.disp.txPkt = notReadyByte) :
    d.fsm.showsNotReady = true → topByte d.txPkt = notReadyByte := by
  cases h with
  | writeEnds => exact fun _ => topByte_withTopByte ..
  | waits => exact hhdr
  | _ => simp_all [Fsm.showsNotReady]

/-- The grant stages the header of the id it latches, and both stay until the packet is copied (R89). -/
theorem DispStep.hdr_event (h : DispStep s d)
    (hhdr : s.disp.fsm.showsEvent = true → (topByte s.disp.txPkt).extractLsb' 0 4 = s.disp.evtId) :
    d.fsm.showsEvent = true → (topByte d.txPkt).extractLsb' 0 4 = d.evtId := by
  cases h with
  | grants i =>
    intro _
    rw [topByte_withTopByte]
    exact eventHeader_id _ i
  | waits => exact hhdr
  | _ => simp_all [Fsm.showsEvent]

/-- The header of the move from IDLE to SEND_EVENT is that of the granted byteCount and id (R153). -/
theorem DispStep.hdr_of_grant (h : DispStep s d) (hidle : s.disp.fsm = .idle) (hsend : d.fsm = .sendEvent) :
    topByte d.txPkt = eventHeader (s.input.periph d.evtId.toNat).bc d.evtId := by
  cases h with
  | grants => exact topByte_withTopByte ..
  | _ => simp_all

/-- Between the grant and the event's end only PERIPH_EVENT writes the header (R44). -/
theorem DispStep.hdr_of_outbound (h : DispStep s d) (hout : d.fsm.outbound = true) (hidle : s.disp.fsm ≠ .idle)
    (hperiph : s.disp.fsm ≠ .periphEvent) : topByte d.txPkt = topByte s.disp.txPkt := by
  cases h with
  | grants i hfsm => exact absurd hfsm hidle
  | copiesPacket hfsm => exact absurd hfsm hperiph
  | _ => simp_all [Fsm.outbound]

/-- PERIPH_EVENT always copies the packet (R165). -/
theorem DispStep.txPkt_of_periphEvent (h : DispStep s d) (hfsm : s.disp.fsm = .periphEvent) :
    d.txPkt = (s.input.periph s.disp.evtId.toNat).pkt := by
  cases h with
  | copiesPacket => rfl
  | waits hwaits =>
    obtain ⟨-, -, hnot⟩ := fsm_of_dispWaits hwaits
    exact absurd hfsm hnot
  | _ => simp_all

/-! ## The granted slot -/

/-- The grant is of an outbound-capable slot, and `evt_id` stays through the outbound half. -/
theorem DispStep.evtSlot (h : DispStep s d)
    (hslot : s.disp.fsm.outbound = true → s.slots.canSend s.disp.evtId.toNat = true) :
    d.fsm.outbound = true → s.slots.canSend d.evtId.toNat = true := by
  cases h with
  | grants i _ _ hpoll => exact fun _ => canSend_of_poll hpoll
  | waits => exact hslot
  | _ => simp_all [Fsm.outbound]

/-! ## The invariant -/

/-- The invariant at reset, for every slot table (R241). -/
theorem statusInv_resetWith (slots : SlotTable) (script : List TickIn) : (State.resetWith slots script).StatusInv where
  dir := rfl
  rxValid := rfl
  oeReceiving := nofun
  oeElsewhere _ _ := rfl
  hdrStart _ := BitVec.extractLsb'_zero
  hdrOkToSend := nofun
  hdrNotReady := nofun
  hdrEvent := nofun
  evtSlot := nofun

/-- Every move of the Dispatcher keeps the invariant. -/
theorem DispStep.keeps_statusInv {t : State} (h : DispStep s t.disp) (hslots : t.slots = s.slots) (hs : s.StatusInv) :
    t.StatusInv where
  dir := h.dir_eq_outbound hs.dir
  rxValid := h.rxValid_eq_handshake hs.rxValid
  oeReceiving := h.oe_of_receiving hs.oeReceiving
  oeElsewhere := h.oe_elsewhere hs.oeElsewhere
  hdrStart hstart := absurd hstart h.fsm_ne_start
  hdrOkToSend := h.hdr_okToSend hs.hdrOkToSend
  hdrNotReady := h.hdr_notReady hs.hdrNotReady
  hdrEvent := h.hdr_event hs.hdrEvent
  evtSlot hout := hslots ▸ h.evtSlot hs.evtSlot hout

/-- A step keeps the status invariant. -/
theorem step_keeps_statusInv {t : State} (hstep : step s = .next t) (hs : s.StatusInv) : t.StatusInv :=
  (step_dispStep hstep).keeps_statusInv (step_slots hstep) hs

end Machine
end Sys2Proof
end

section
/-! The statements about the status bits and the header after a tick (43_dispatcher.md R156, R174). -/

namespace Sys2Proof
namespace Machine

/-- Settles O5: the invariant holds at reset, and a step's move of the Dispatcher keeps each of its parts; the four
facts about a single step are read off the move. -/
theorem statusInvariantIsKept : Obligations.StatusInvariantIsKept := by
  refine ⟨statusInv_resetWith, fun s t hs hstep => ?_⟩
  have hmove : DispStep s t.disp := step_dispStep hstep
  exact ⟨step_keeps_statusInv hstep hs, hmove.oe_of_waitStmData hs.oeElsewhere, hmove.hdr_of_grant,
    hmove.hdr_of_outbound, fun hperiph => congrArg topByte (hmove.txPkt_of_periphEvent hperiph)⟩

/-- Settles O35: the action drops `oe` in both branches; a tick into the state from another one leaves it at 1. -/
theorem waitStmDataDropsOutputEnable : Obligations.WaitStmDataDropsOutputEnable := by
  refine ⟨fun s => ⟨_, exec_waitStmData s, sameButDisp_with_disp s _, rfl⟩,
    fun s t hstep => ⟨fun hfsm => ?drops, fun hs hother hwait => ?enters⟩⟩
  case drops => exact congrArg Dispatcher.oe (step_disp_of_exec hfsm (exec_waitStmData s) hstep)
  case enters =>
    have hoe : t.disp.oe = (s.disp.fsm != .waitStmData) :=
      (step_dispStep hstep).oe_of_waitStmData hs.oeElsewhere hwait
    exact hoe.trans (bne_iff_ne.mpr hother)

end Machine
end Sys2Proof
end

section
/-! What a host write leaves at the outputs (44_peripheral_interface.md R201): the run from the write's `cs_fall` to its
`cs_rise`, the symbols its Rx buffer then holds, and the trailer's fields among them. -/

namespace Sys2Proof
namespace Machine

/-! ## The run of a write -/

/-- A write is in progress: RECEIVING, with the low chip-select in the history that makes the next high one its end
(R157, R158). -/
def State.inWrite (s : State) : Prop := s.disp.fsm = .receiving ∧ s.cond.csPrev = false

/-- `cs_fall` in WAIT_STM_DATA begins a write (R157). -/
theorem step_inWrite_of_csFall {s t : State} (h : step s = .next t) (hfsm : s.disp.fsm = .waitStmData)
    (hfall : s.csFall = true) : t.inWrite := by
  obtain ⟨-, hlow⟩ := (csFall_iff s).mp hfall
  have hdisp := step_disp_of_exec hfsm (exec_waitStmData s) h
  exact ⟨(congrArg Dispatcher.fsm hdisp).trans (if_pos hfall), (step_csPrev h).trans hlow⟩

/-- A write goes on while chip-select is low (R159). -/
theorem step_keeps_inWrite {s t : State} (hs : s.inWrite) (hlow : s.csS = false) (h : step s = .next t) :
    t.inWrite := by
  obtain ⟨hfsm, hprev⟩ := hs
  have hrise : s.csRise = false := by simp [State.csRise, hlow]
  have hdisp : t.disp = s.disp := step_disp_of_exec hfsm (exec_receiving_of_noRise hrise) h
  exact ⟨(congrArg Dispatcher.fsm hdisp).trans hfsm, (step_csPrev h).trans hlow⟩

/-- A run of ticks with chip-select low that starts with the `cs_fall` of a write ends in the write; it is not empty if
chip-select is high at its end. -/
theorem path_inWrite_of_csFall {s t : State} {vs : List State} (hp : Path s vs t) (hfsm : s.disp.fsm = .waitStmData)
    (hfall : s.csFall = true) (hlow : ∀ v ∈ vs, v.csS = false) (hhigh : t.csS = true) : t.inWrite := by
  cases vs with
  | nil =>
    obtain rfl := hp
    obtain ⟨-, hcs⟩ := (csFall_iff s).mp hfall
    exact absurd hhigh (ne_true_of_eq_false hcs)
  | cons v vs =>
    obtain ⟨rfl, u, hu, hrest⟩ := (path_cons _ _ _ _).mp hp
    exact path_induction (fun _ _ => step_keeps_inWrite) hrest (step_inWrite_of_csFall hu hfsm hfall)
      fun w hw => hlow w (List.mem_cons_of_mem _ hw)

/-- A transaction pushes its symbols on clear Rx registers: the high chip-select before it has cleared them (R121). -/
theorem path_rx_of_csFall {s t : State} {vs : List State} (hp : Path s vs t) (hs : s.LineInv)
    (hfall : s.csFall = true) (hlow : ∀ v ∈ vs, v.csS = false) : t.rx = (sampled vs).foldl RxCodec.push ⟨0, 0⟩ := by
  obtain ⟨hprev, -⟩ := (csFall_iff s).mp hfall
  obtain ⟨hclear, -⟩ := hs.cleared hprev
  exact hclear ▸ path_rx_of_selected hp hlow

/-- No run writes the slot table (R40). -/
theorem path_slots {s t : State} {vs : List State} (hp : Path s vs t) : t.slots = s.slots :=
  path_induction (P := fun v => v.slots = s.slots) (Q := fun _ => True)
    (fun _ _ hv _ hstep => (step_slots hstep).trans hv) hp rfl fun _ _ => trivial

/-! ## The buffer and the trailer -/

/-- The id is the top symbol of an inbound packet (R83). -/
theorem trailerId_eq_symbolFromTop (p : Packet) : trailerId p = symbolFromTop p 0 := by
  simp [trailerId, symbolFromTop]

/-- The flags are the second symbol of an inbound packet (R83). -/
theorem trailerFlags_eq_symbolFromTop (p : Packet) : trailerFlags p = symbolFromTop p 1 := by
  apply BitVec.eq_of_getLsbD_eq
  intro i hi
  have hplace : 124 + i - 4 = 120 + i := by omega
  have habove : ¬ 124 + i < 4 := by omega
  have hwidth : 124 + i < 128 := by omega
  simp only [trailerFlags, symbolFromTop, BitVec.getLsbD_extractLsb', BitVec.getLsbD_shiftLeft]
  simp [hplace, habove, hwidth]

/-- The symbol sent `j` places before the last is symbol `j` from the top of a buffer that was clear (R63). -/
theorem getElem?_eq_symbolFromTop_foldl_push (qs : List Symbol) (n : SymCount) {j : Nat} (hlen : qs.length ≤ 32)
    (hj : j < qs.length) :
    qs[qs.length - 1 - j]? = some (symbolFromTop (qs.foldl RxCodec.push ⟨0, n⟩).buf j) := by
  have hget : qs.reverse[j]? = some (qs.reverse[j]'(by rwa [List.length_reverse])) := List.getElem?_eq_getElem _
  rw [symbolFromTop_foldl_push qs n (by omega), ← List.getElem?_reverse hj, hget, Option.getD_some]

/-- Below the symbols sent, a buffer that was clear holds zeros (R63). -/
theorem symbolFromTop_foldl_push_of_length_le (qs : List Symbol) (n : SymCount) {j : Nat} (hj : qs.length ≤ j) :
    symbolFromTop (qs.foldl RxCodec.push ⟨0, n⟩).buf j = 0 := by
  rcases Nat.lt_or_ge j 32 with hj32 | hj32
  · have hget : qs.reverse.length ≤ j := by rwa [List.length_reverse]
    rw [symbolFromTop_foldl_push qs n hj32, List.getElem?_eq_none hget, Option.getD_none]
  · exact symbolFromTop_beyond _ j hj32

/-- Up to 63 symbols the count of a codec that was clear does not wrap (R122). -/
theorem foldl_push_cnt_of_clear {qs : List Symbol} (hlen : qs.length < 64) :
    (qs.foldl RxCodec.push ⟨0, 0⟩).cnt.toNat = qs.length :=
  (foldl_push_cnt qs ⟨0, 0⟩).trans ((congrArg (· % 64) qs.length.zero_add).trans (Nat.mod_eq_of_lt hlen))

/-- The bounds of a legal length at the default parameters (R214 item 3). -/
theorem legalWriteLength_bounds {n : Nat} (h : legalWriteLength n) : 2 ≤ n ∧ n ≤ 32 := by
  obtain ⟨hmin, hmax, -⟩ := h
  exact ⟨hmin, hmax⟩

/-- The byteCount of a write of legal length does not wrap: its whole bytes less the trailer (R85). -/
theorem inboundByteCount_of_legalWriteLength {n : Nat} {cnt : SymCount} (hlegal : legalWriteLength n)
    (hcnt : cnt.toNat = n) : (inboundByteCount cnt).toNat = n * 4 / 8 - 1 := by
  obtain ⟨hmin, hmax⟩ := legalWriteLength_bounds hlegal
  have hint := inboundByteCount_toNat cnt
  omega

/-! ## The delivery -/

/-- Settles O56: the run pushes the sampled symbols on the clear Rx registers and ends in RECEIVING at the `cs_rise`,
whose tick captures buffer, count and trailer. -/
theorem hostWriteIsDelivered : Obligations.HostWriteIsDelivered := by
  intro s vs t d hs hfsm hfall hp hlow hhigh hstep hlegal hrecv qs n
  obtain ⟨hreceiving, hprev⟩ := path_inWrite_of_csFall hp hfsm hfall hlow hhigh
  have hrise : t.csRise = true := (csRise_iff t).mpr ⟨hprev, hhigh⟩
  have hdisp := step_disp_of_exec hreceiving (exec_receiving_of_csRise hrise) hstep
  have hrx : t.rx = qs.foldl RxCodec.push ⟨0, 0⟩ := path_rx_of_csFall hp hs hfall hlow
  have hslots : d.slots = s.slots := (step_slots hstep).trans (path_slots hp)
  obtain ⟨hmin, hmax⟩ : 2 ≤ n ∧ n ≤ 32 := legalWriteLength_bounds hlegal
  have hcnt : t.rx.cnt.toNat = n := hrx ▸ foldl_push_cnt_of_clear (by omega)
  have hpkt : d.pktOut = t.rx.buf := congrArg Dispatcher.rxPkt hdisp
  have hid : d.disp.destId = trailerId t.rx.buf := congrArg Dispatcher.destId hdisp
  have hflags : d.flagsOut = trailerFlags t.rx.buf := congrArg Dispatcher.rxFlags hdisp
  have hvalid : d.disp.rxValid = true := congrArg Dispatcher.rxValid hdisp
  have hbc : d.bcOut = inboundByteCount t.rx.cnt := congrArg Dispatcher.rxBc hdisp
  have hsent : ∀ j, j < n → qs[n - 1 - j]? = some (symbolFromTop t.rx.buf j) := fun j hj =>
    hrx ▸ getElem?_eq_symbolFromTop_foldl_push qs 0 hmax hj
  refine ⟨?id, ?valid, ?flags, ?byteCount, ?topSymbol, ?secondSymbol, fun j _ hj => ?payload, fun j hj => ?below,
    congrArg Dispatcher.fsm hdisp, ?header, congrArg Dispatcher.oe hdisp⟩
  case id =>
    rw [hid, trailerId_eq_symbolFromTop]
    exact hsent 0 (by omega)
  case valid => exact (valid_iff_of_canReceive (hslots ▸ hrecv)).mpr ⟨hvalid, rfl⟩
  case flags =>
    rw [hflags, trailerFlags_eq_symbolFromTop]
    exact hsent 1 (by omega)
  case byteCount => exact hbc ▸ inboundByteCount_of_legalWriteLength hlegal hcnt
  case topSymbol => exact (congrArg trailerId hpkt).trans hid.symm
  case secondSymbol => exact (congrArg trailerFlags hpkt).trans hflags.symm
  case payload => exact hpkt ▸ hsent j hj
  case below => exact hpkt ▸ hrx ▸ symbolFromTop_foldl_push_of_length_le qs 0 hj
  case header => exact (congrArg (fun r : Dispatcher => topByte r.txPkt) hdisp).trans (topByte_withTopByte ..)

end Machine
end Sys2Proof
end

section
/-! The outputs in tick 0 (70_reset_and_hazards.md R242): the reset registers of R241 read through the outputs of
10_state.md R47. -/

namespace Sys2Proof
namespace Machine

/-- `rx_valid` gates every `valid[i]`, whichever id is latched and whichever slots can receive (R191). -/
theorem valid_eq_false_of_rxValid {s : State} (h : s.disp.rxValid = false) (i : Nat) : s.valid i = false := by
  refine Bool.eq_false_iff.mpr fun hvalid => ?_
  obtain ⟨-, hset, -⟩ := (valid_iff s i).mp hvalid
  exact Bool.false_ne_true (h.symm.trans hset)

/-- Outside PERIPH_EVENT no slot is acknowledged, whichever id is granted (R193). -/
theorem ack_eq_false_of_fsm {s : State} (h : s.disp.fsm ≠ .periphEvent) (i : Nat) : s.ack i = false := by
  refine Bool.eq_false_iff.mpr fun hack => ?_
  obtain ⟨-, hperiph, -⟩ := (ack_iff s i).mp hack
  exact h hperiph

/-- Settles O2: `rx_valid` is clear, START is not PERIPH_EVENT, both codecs are clear, and the other outputs are
Dispatcher registers at their reset values. -/
theorem outputsInTickZero : Obligations.OutputsInTickZero := by
  intro slots script s
  have hdqOut : s.dqOut = 0 := (dqOut_of_sh_eq (t := s) rfl).trans BitVec.extractLsb'_zero
  have hvalid : ∀ i, s.valid i = false := valid_eq_false_of_rxValid rfl
  have hack : ∀ i, s.ack i = false := ack_eq_false_of_fsm nofun
  obtain ⟨-, -, hrxReady⟩ := clear_spec (t := s) rfl
  exact ⟨hdqOut, rfl, rfl, hvalid, hack, hrxReady, rfl, rfl, rfl⟩

end Machine
end Sys2Proof
end

section
/-! Encoding and decode (30_encoding.md R91 to R93, R96 to R103): all that a decode can accept, one case per format, and
from it both directions: an operation's word decodes to it, and an accepted word is the word of what it decodes to. -/

namespace Sys2Proof
namespace Machine

/-! ## The Dispatcher's codes -/

/-- The twelve Dispatcher states (R30). -/
def Fsm.all : List Fsm :=
  [.start, .idle, .okToSend, .waitStmData, .receiving, .receiveHandshake, .waitForTxn, .sendEvent, .sendingEvent,
    .periphEvent, .sendData, .sending]

/-- The code of a state selects the state's action (R99). -/
theorem fsmOp_code (f : Fsm) : fsmOp f.code = some f.op := by
  cases f <;> rfl

/-- The codes below 12 are those of the states (R30). -/
theorem exists_code_eq_of_lt {code : BitVec 4} (hlt : code.toNat < 12) : ∃ f : Fsm, f.code = code := by
  have hall : ∀ c : BitVec 4, c.toNat < 12 → ∃ f ∈ Fsm.all, f.code = c := by decide
  obtain ⟨f, -, hcode⟩ := hall code hlt
  exact ⟨f, hcode⟩

/-- No state has a code from 12 on (R99). -/
theorem fsmOp_eq_none_of_le {code : BitVec 4} (hle : 12 ≤ code.toNat) : fsmOp code = none := by
  revert code
  decide

theorem decode_fsmCode (f : Fsm) : decode .dispatcher [f.code.setWidth 8] = .ok f.op := by
  simp only [decode, fourBits_setWidth, fsmOp_code]

/-- Settles O11: each code's action, a state for every code below 12, and no action from 12 on. -/
theorem fsmCodesSelectTheActions : Obligations.FsmCodesSelectTheActions := by
  refine ⟨decode_fsmCode, fun code hlt => exists_code_eq_of_lt hlt, fun code hle => ?_⟩
  simp only [decode, fourBits_setWidth, fsmOp_eq_none_of_le hle]

/-! ## The header byte -/

/-- A byte is its upper nibble above its lower one. -/
theorem nibbles_append (b : WireByte) : b.extractLsb' 4 4 ++ b.extractLsb' 0 4 = b :=
  BitVec.extractLsb'_append_extractLsb' (w := 4) (len := 4)

/-- The event headers without a word of their own are those whose byte is reserved (R93, R103). -/
theorem wellFormed_hdrEvent_iff (bc : BitVec 4) (id : PeriphId) :
    (Instr.hdrEvent bc id).wellFormed = true ↔ bc ++ id ≠ (0xF0 : WireByte) ∧ bc ++ id ≠ (0xFF : WireByte) := by
  revert bc id
  decide

/-- A byte that is not reserved is an event header (R91). -/
theorem headerOp_of_notReserved {b : WireByte} (hok : b ≠ 0xF0) (hbusy : b ≠ 0xFF) :
    headerOp b = .hdrEvent (b.extractLsb' 4 4) (b.extractLsb' 0 4) := by
  simp only [headerOp, beq_iff_eq, if_neg hok, if_neg hbusy]

theorem headerOp_append_of_wellFormed {bc : BitVec 4} {id : PeriphId} (hwf : (Instr.hdrEvent bc id).wellFormed = true) :
    headerOp (bc ++ id) = .hdrEvent bc id := by
  obtain ⟨hok, hbusy⟩ := (wellFormed_hdrEvent_iff bc id).mp hwf
  rw [headerOp_of_notReserved hok hbusy, BitVec.extractLsb'_append_eq_left, BitVec.extractLsb'_append_eq_right]

/-- What the header rows make of a byte is an operation of theirs, well formed, with that byte as its word. -/
theorem headerOp_spec (b : WireByte) :
    (headerOp b).component = .headerByte ∧ (headerOp b).wellFormed = true ∧ encode (headerOp b) = [b] := by
  by_cases hok : b = 0xF0
  · subst hok
    exact ⟨rfl, rfl, rfl⟩
  · by_cases hbusy : b = 0xFF
    · subst hbusy
      exact ⟨rfl, rfl, rfl⟩
    · rw [headerOp_of_notReserved hok hbusy, wellFormed_hdrEvent_iff, encode, nibbles_append]
      exact ⟨rfl, ⟨hok, hbusy⟩, rfl⟩

/-- Settles O12: both readings try the two reserved bytes first and take the nibbles of every other byte. -/
theorem headerBytesAreClassified : Obligations.HeaderBytesAreClassified := by
  refine fun h => ⟨?okToSend, ?notReady, fun hok hbusy => ⟨?host, ?engine⟩⟩
  case okToSend =>
    rintro rfl
    exact ⟨rfl, rfl⟩
  case notReady =>
    rintro rfl
    exact ⟨rfl, rfl⟩
  case host => rw [classifyHeader, if_neg hok, if_neg hbusy]
  case engine => exact congrArg Except.ok (headerOp_of_notReserved hok hbusy)

/-! ## Both directions -/

/-- `DecodesTo c bytes i`: the component `c` reads the operation `i` from the word `bytes`. -/
inductive DecodesTo : Component → List WireByte → Instr → Prop where
  /-- Format NONE. -/
  | cond : DecodesTo .inputConditioner [] .cond
  /-- Format FSM4 (R99). -/
  | action (f : Fsm) : DecodesTo .dispatcher [f.code.setWidth 8] f.op
  /-- Format CTL4, the Rx Codec (R97). -/
  | rx (c : ControlVec) : DecodesTo .rxCodec [c.setWidth 8] (rxOp c)
  /-- Format CTL4, the Tx Codec (R98). -/
  | tx (c : ControlVec) : DecodesTo .txCodec [c.setWidth 8] (txOp c)
  /-- Format HDR8 (R91). -/
  | header (b : WireByte) : DecodesTo .headerByte [b] (headerOp b)
  /-- Format TRL8 (R83). -/
  | trailer (b : WireByte) : DecodesTo .inboundTrailer [b] (trailerOp b)

theorem DecodesTo.decode_eq {c : Component} {bytes : List WireByte} {i : Instr} (h : DecodesTo c bytes i) :
    decode c bytes = .ok i := by
  cases h with
  | cond => rfl
  | action f => exact decode_fsmCode f
  | rx v => exact decode_rxCodec v
  | tx v => exact decode_txCodec v
  | header b => rfl
  | trailer b => rfl

/-- An accepted 4-bit word is its four bits, zero-extended. -/
theorem setWidth_of_fourBits {c : Component} {b : WireByte} {v : BitVec 4} (h : fourBits c b = .ok v) :
    v.setWidth 8 = b := by
  unfold fourBits at h
  split at h
  · next hlt =>
    cases h
    refine BitVec.eq_of_toNat_eq ?_
    simp only [BitVec.toNat_setWidth]
    omega
  · cases h

/-- A word accepted by the Dispatcher's decode is the code of a state (R99). -/
theorem decodesTo_of_decode_dispatcher {b : WireByte} {i : Instr} (h : decode .dispatcher [b] = .ok i) :
    DecodesTo .dispatcher [b] i := by
  simp only [decode] at h
  split at h
  · cases h
  · next code hcode =>
    obtain rfl := setWidth_of_fourBits hcode
    split at h
    · next j hj =>
      cases h
      have hlt : code.toNat < 12 := Nat.lt_of_not_le fun hle => nomatch (fsmOp_eq_none_of_le hle).symm.trans hj
      obtain ⟨f, rfl⟩ := exists_code_eq_of_lt hlt
      obtain rfl : f.op = i := Option.some.inj ((fsmOp_code f).symm.trans hj)
      exact .action f
    · cases h

/-- All that a decode accepts (R102): every format has words of one length only. -/
theorem decodesTo_of_decode {c : Component} {bytes : List WireByte} {i : Instr} (h : decode c bytes = .ok i) :
    DecodesTo c bytes i := by
  unfold decode at h
  split at h
  · cases h
    exact .cond
  · exact decodesTo_of_decode_dispatcher h
  · split at h
    · cases h
    · next v hv =>
      cases h
      obtain rfl := setWidth_of_fourBits hv
      exact .rx v
  · split at h
    · cases h
    · next v hv =>
      cases h
      obtain rfl := setWidth_of_fourBits hv
      exact .tx v
  · next b =>
    cases h
    exact .header b
  · next b =>
    cases h
    exact .trailer b
  · cases h

/-- A state's action belongs to the Dispatcher, is well formed, and its word is the state's code (R99). -/
theorem op_spec (f : Fsm) :
    f.op.component = .dispatcher ∧ f.op.wellFormed = true ∧ encode f.op = [f.code.setWidth 8] := by
  cases f <;> exact ⟨rfl, rfl, rfl⟩

theorem rxOp_spec (c : ControlVec) : (rxOp c).component = .rxCodec ∧ (rxOp c).wellFormed = true := by
  unfold rxOp
  split_ifs <;> exact ⟨rfl, rfl⟩

theorem txOp_spec (c : ControlVec) : (txOp c).component = .txCodec ∧ (txOp c).wellFormed = true := by
  unfold txOp
  split_ifs <;> exact ⟨rfl, rfl⟩

/-- Settles O8: format by format. -/
theorem decodedWordsAreWellFormed : Obligations.DecodedWordsAreWellFormed := by
  intro c bytes i h
  cases decodesTo_of_decode h with
  | cond => exact ⟨rfl, rfl, fun _ _ => rfl⟩
  | action f =>
    obtain ⟨hcomponent, hwf, hword⟩ := op_spec f
    exact ⟨hcomponent, hwf, fun _ _ => hword⟩
  | rx v =>
    obtain ⟨hcomponent, hwf⟩ := rxOp_spec v
    exact ⟨hcomponent, hwf, fun hrx => absurd rfl hrx⟩
  | tx v =>
    obtain ⟨hcomponent, hwf⟩ := txOp_spec v
    exact ⟨hcomponent, hwf, fun _ htx => absurd rfl htx⟩
  | header b =>
    obtain ⟨hcomponent, hwf, hword⟩ := headerOp_spec b
    exact ⟨hcomponent, hwf, fun _ _ => hword⟩
  | trailer b => exact ⟨rfl, rfl, fun _ _ => congrArg (fun x : WireByte => [x]) (nibbles_append b)⟩

/-- The Dispatcher reads a state's action from the action's word. -/
theorem decode_encode_op (f : Fsm) : decode .dispatcher (encode f.op) = .ok f.op := by
  obtain ⟨-, -, hword⟩ := op_spec f
  rw [hword, decode_fsmCode]

/-- The trailer byte's decode takes apart what its word puts together (R83). -/
theorem trailerOp_append (id : PeriphId) (flags : FlagsField) : trailerOp (id ++ flags) = .inbTrailer id flags := by
  rw [trailerOp, BitVec.extractLsb'_append_eq_left, BitVec.extractLsb'_append_eq_right]

/-- Settles O7: an action's word is its state's code, a codec operation's word fits its row and no earlier one, and the
nibbles of a header or trailer byte are read back; well-formedness keeps an event header off the reserved bytes. -/
theorem decodeOfEncodeIsTheOperation : Obligations.DecodeOfEncodeIsTheOperation := by
  intro i hwf
  cases i with
  | start => exact decode_encode_op .start
  | idle => exact decode_encode_op .idle
  | okToSend => exact decode_encode_op .okToSend
  | waitStmData => exact decode_encode_op .waitStmData
  | receiving => exact decode_encode_op .receiving
  | receiveHandshake => exact decode_encode_op .receiveHandshake
  | waitForTxn => exact decode_encode_op .waitForTxn
  | sendEvent => exact decode_encode_op .sendEvent
  | sendingEvent => exact decode_encode_op .sendingEvent
  | periphEvent => exact decode_encode_op .periphEvent
  | sendData => exact decode_encode_op .sendData
  | sending => exact decode_encode_op .sending
  | rxClear => exact decode_rxCodec 0b0100
  | rxShift => exact decode_rxCodec 0b0001
  | rxHold => exact decode_rxCodec 0b0000
  | txClear => exact decode_txCodec 0b0100
  | txLoad => exact decode_txCodec 0b1000
  | txShift => exact decode_txCodec 0b0010
  | txHold => exact decode_txCodec 0b0000
  | cond => rfl
  | hdrOkToSend => rfl
  | hdrNotReady => rfl
  | hdrEvent bc id => exact congrArg Except.ok (headerOp_append_of_wellFormed hwf)
  | inbTrailer id flags => exact congrArg Except.ok (trailerOp_append id flags)

/-- Settles O13: each word is the code of a state, a control vector, or a byte of two nibbles. -/
theorem writtenWordsDecode : Obligations.WrittenWordsDecode := by
  obtain ⟨-, -, hunused⟩ := fsmCodesSelectTheActions
  exact ⟨decode_fsmCode .receiveHandshake, decode_rxCodec 0b1001, decode_txCodec 0b1011, DecodesTo.cond.decode_eq,
    (DecodesTo.header 0b01010001).decode_eq, (DecodesTo.trailer 0b10010011).decode_eq, hunused 12 (by decide)⟩

/-! ## The event header's value -/

/-- The nibble of a legal byteCount is not 15 (R199). -/
theorem mod_ne_of_legalByteCount {bc : ByteCount} (h : legalByteCount bc) : bc.toNat % 16 ≠ 15 := by
  obtain ⟨-, hnibble⟩ := h
  have hand : (bc &&& 0xF).toNat = bc.toNat % 16 := Nat.and_two_pow_sub_one_eq_mod bc.toNat 4
  exact fun hmod => hnibble (BitVec.eq_of_toNat_eq (hand.trans hmod))

/-- Only the id 15, which no slot has, gives a header that reads as busy (R92). -/
theorem eventHeader_ne_notReady {bc : ByteCount} {i : PeriphId} (hi : i ≠ 15) : eventHeader bc i ≠ 0xFF := by
  intro hbusy
  exact hi ((eventHeader_id bc i).symm.trans (congrArg (BitVec.extractLsb' 0 4) hbusy))

/-- The header of id 0 with the nibble 15 reads as `OK_TO_SEND`, and no other does (R93). -/
theorem eventHeader_eq_okToSend_iff (bc : ByteCount) (i : PeriphId) :
    eventHeader bc i = 0xF0 ↔ i = 0 ∧ bc.toNat % 16 = 15 := by
  have hval := eventHeader_toNat bc i
  have hlt := i.isLt
  have hbyte : eventHeader bc i = 0xF0 ↔ (eventHeader bc i).toNat = 240 :=
    (BitVec.toNat_inj (x := eventHeader bc i) (y := 0xF0)).symm
  have hid : i = 0 ↔ i.toNat = 0 := (BitVec.toNat_inj (x := i) (y := 0)).symm
  rw [hbyte, hid]
  omega

/-- With a legal byteCount the header's byte is neither of the reserved ones, whose upper nibble is 15 (R93). -/
theorem classifyHeader_eventHeader {bc : ByteCount} (i : PeriphId) (h : legalByteCount bc) :
    classifyHeader (eventHeader bc i) = .event i (bc.setWidth 4) := by
  have hval := eventHeader_toNat bc i
  have hnibble := mod_ne_of_legalByteCount h
  have hlt := i.isLt
  have hok : eventHeader bc i ≠ 0xF0 := fun hbyte => hnibble ((eventHeader_eq_okToSend_iff bc i).mp hbyte).2
  have hbusy : eventHeader bc i ≠ 0xFF := by
    intro hbyte
    have hnat : bc.toNat % 16 * 16 + i.toNat = 255 := hval.symm.trans (congrArg BitVec.toNat hbyte)
    omega
  rw [classifyHeader, if_neg hok, if_neg hbusy, eventHeader_id, eventHeader_eq_append,
    BitVec.extractLsb'_append_eq_left]

/-- Settles O44: the value of R89, its two collisions, and the host's reading without one. -/
theorem eventHeaderNeverReadsAsBusy : Obligations.EventHeaderNeverReadsAsBusy := fun bc i =>
  ⟨eventHeader_toNat bc i, eventHeader_ne_notReady, eventHeader_eq_okToSend_iff bc i, classifyHeader_eventHeader i⟩

end Machine
end Sys2Proof
end

section
/-! The Input Conditioner over consecutive ticks (40_input_conditioner.md R111, R112, R116): what each of its registers
and each edge after a tick says of the tick, and from three ticks the delay of two samples. -/

namespace Sys2Proof
namespace Machine

variable {s t : State}

theorem step_csFf0 (h : step s = .next t) : t.cond.csFf0 = s.input.csRaw :=
  congrArg Conditioner.csFf0 (step_cond h)

theorem step_csS (h : step s = .next t) : t.csS = s.cond.csFf0 :=
  congrArg Conditioner.csFf1 (step_cond h)

theorem step_clkFf0 (h : step s = .next t) : t.cond.clkFf0 = s.input.clkRaw :=
  congrArg Conditioner.clkFf0 (step_cond h)

theorem step_clkS (h : step s = .next t) : t.clkS = s.cond.clkFf0 :=
  congrArg Conditioner.clkFf1 (step_cond h)

theorem step_clkPrev (h : step s = .next t) : t.cond.clkPrev = s.clkS :=
  congrArg Conditioner.clkPrev (step_cond h)

/-- The edge a tick hands on is between its settled level and its first synchronizer stage (R112, R114). -/
theorem step_csFall (h : step s = .next t) : t.csFall = (s.csS && !s.cond.csFf0) := by
  rw [State.csFall, step_csPrev h, step_csS h]

theorem step_csRise (h : step s = .next t) : t.csRise = (!s.csS && s.cond.csFf0) := by
  rw [State.csRise, step_csPrev h, step_csS h]

theorem step_clkRise (h : step s = .next t) : t.clkRise = (!s.clkS && s.cond.clkFf0) := by
  rw [State.clkRise, step_clkPrev h, step_clkS h]

theorem step_clkFall (h : step s = .next t) : t.clkFall = (s.clkS && !s.cond.clkFf0) := by
  rw [State.clkFall, step_clkPrev h, step_clkS h]

/-- Settles O24: the third tick hands on its level and first stage as the edges; the ticks before have moved the first
two raw samples there. -/
theorem controlLinesSettleTwoTicksLate : Obligations.ControlLinesSettleTwoTicksLate := by
  rintro s v0 v1 v2 t ⟨rfl, u1, h0, rfl, u2, h1, rfl, u3, h2, rfl⟩
  have hcs : u2.csS = s.input.csRaw := (step_csS h1).trans (step_csFf0 h0)
  have hclk : u2.clkS = s.input.clkRaw := (step_clkS h1).trans (step_clkFf0 h0)
  rw [step_csFall h2, step_csRise h2, step_clkRise h2, step_clkFall h2, hcs, hclk, step_csFf0 h1, step_clkFf0 h1]
  exact ⟨(step_csS h2).trans (step_csFf0 h1), (step_clkS h2).trans (step_clkFf0 h1), rfl, rfl, rfl, rfl⟩

end Machine
end Sys2Proof
end

section
/-! The line invariant (40_input_conditioner.md R112, 41_rx_codec.md R121, 42_tx_codec.md R136, 43_dispatcher.md section
2): the level a tick hands on as history, by the state the Dispatcher moves to, and the invariant at reset. -/

namespace Sys2Proof
namespace Machine

variable {s t : State} {d : Dispatcher}

/-! ## The level in a tick without the edge -/

theorem csS_of_csFall (hfall : s.csFall = true) : s.csS = false :=
  ((csFall_iff s).mp hfall).2

theorem csS_of_csRise (hrise : s.csRise = true) : s.csS = true :=
  ((csRise_iff s).mp hrise).2

/-- From a high history that does not fall the level is high (R114). -/
theorem csS_of_noFall (hprev : s.cond.csPrev = true) (hquiet : s.csFall = false) : s.csS = true := by
  simpa [State.csFall, hprev] using hquiet

/-- From a low history that does not rise the level is low (R114). -/
theorem csS_of_noRise (hprev : s.cond.csPrev = false) (hquiet : s.csRise = false) : s.csS = false := by
  simpa [State.csRise, hprev] using hquiet

/-- IDLE and SEND_EVENT leave at a `cs_fall`, so they wait only without one (R154, R163). -/
theorem csFall_of_dispWaits (hwaits : s.dispWaits = true) (hfsm : s.disp.fsm = .idle ∨ s.disp.fsm = .sendEvent) :
    s.csFall = false := by
  rcases hfsm with hfsm | hfsm <;> simp_all [State.dispWaits]

/-- The four states with the transaction's end for their exit wait only without a `cs_rise` (R155, R159, R164, R167). -/
theorem csRise_of_dispWaits (hwaits : s.dispWaits = true)
    (hfsm : s.disp.fsm = .okToSend ∨ s.disp.fsm = .receiving ∨ s.disp.fsm = .sendingEvent ∨ s.disp.fsm = .sending) :
    s.csRise = false := by
  rcases hfsm with hfsm | hfsm | hfsm | hfsm <;> simpa [State.dispWaits, hfsm] using hwaits

/-! ## Along a move of the Dispatcher -/

/-- The states that await a `cs_fall`, and PERIPH_EVENT, are entered and kept with chip-select high. -/
theorem DispStep.csS_of_high (h : DispStep s d) (hs : s.LineInv)
    (hd : d.fsm = .idle ∨ d.fsm = .waitStmData ∨ d.fsm = .sendEvent ∨ d.fsm = .periphEvent) : s.csS = true := by
  cases h with
  | starts hfsm => exact (hs.start hfsm).2
  | grants i hfsm hquiet => exact csS_of_noFall (hs.high (.inl hfsm)) hquiet
  | probeEnds _ hrise => exact csS_of_csRise hrise
  | dropsOe hfsm hquiet => exact csS_of_noFall (hs.high (.inr (.inl hfsm))) hquiet
  | followUpEnds _ hrise => exact csS_of_csRise hrise
  | dummyReadEnds _ hrise => exact csS_of_csRise hrise
  | readEnds _ hrise => exact csS_of_csRise hrise
  | waits hwaits =>
    obtain ⟨-, hwait, hperiph⟩ := fsm_of_dispWaits hwaits
    have hfsm : s.disp.fsm = .idle ∨ s.disp.fsm = .sendEvent := by simpa [hwait, hperiph] using hd
    exact csS_of_noFall (hs.high hd) (csFall_of_dispWaits hwaits hfsm)
  | _ => simp at hd

/-- The states of a transaction are entered at its `cs_fall` and kept until its `cs_rise`. -/
theorem DispStep.csS_of_low (h : DispStep s d) (hs : s.LineInv)
    (hd : d.fsm = .okToSend ∨ d.fsm = .receiving ∨ d.fsm = .sendingEvent ∨ d.fsm = .sending) : s.csS = false := by
  cases h with
  | probeBegins _ hfall => exact csS_of_csFall hfall
  | writeBegins _ hfall => exact csS_of_csFall hfall
  | dummyReadBegins _ hfall => exact csS_of_csFall hfall
  | readBegins _ hfall => exact csS_of_csFall hfall
  | dropsOe hfsm => simp [hfsm] at hd
  | waits hwaits => exact csS_of_noRise (hs.low hd) (csRise_of_dispWaits hwaits hd)
  | _ => simp at hd

/-- Settles O6: the history after a tick is the tick's level, which the Dispatcher's move fixes; a tick with the level
high clears both codecs. -/
theorem lineInvariantIsKept : Obligations.LineInvariantIsKept := by
  intro s t hs hstep
  have hmove : DispStep s t.disp := step_dispStep hstep
  have hprev : t.cond.csPrev = s.csS := step_csPrev hstep
  exact {
    start := fun hstart => absurd hstart hmove.fsm_ne_start
    high := fun hfsm => hprev.trans (hmove.csS_of_high hs hfsm)
    low := fun hfsm => hprev.trans (hmove.csS_of_low hs hfsm)
    cleared := fun hhigh =>
      have hcs : s.csS = true := hprev.symm.trans hhigh
      ⟨step_rx_of_csHigh hstep hcs, step_tx_of_csHigh hstep hcs⟩ }

/-! ## Reset and the first ticks -/

/-- Settles O1: the registers of R241, field by field; `State.reset` is the reset state of the empty table. -/
theorem resetGivesEveryRegisterItsValue : Obligations.ResetGivesEveryRegisterItsValue := by
  refine ⟨fun slots script => ?_, emptySlots, [], rfl⟩
  exact ⟨rfl, rfl, rfl, rfl, rfl, rfl, rfl, rfl, rfl, rfl, rfl, rfl, rfl, rfl, rfl, rfl, rfl, rfl, rfl, rfl, rfl⟩

/-- At reset chip-select is high in history and level, the Dispatcher is in START, and both codecs are clear (R241). -/
theorem lineInv_resetWith (slots : SlotTable) (script : List TickIn) : (State.resetWith slots script).LineInv where
  start _ := ⟨rfl, rfl⟩
  high _ := rfl
  low := by rintro (h | h | h | h) <;> cases h
  cleared _ := ⟨rfl, rfl⟩

/-- Settles O3: both invariants hold at every reset state, and `State.reset` is one. -/
theorem resetMeetsBothInvariants : Obligations.ResetMeetsBothInvariants :=
  ⟨statusInv_resetWith emptySlots [], lineInv_resetWith emptySlots [],
    fun slots script => ⟨statusInv_resetWith slots script, lineInv_resetWith slots script⟩⟩

/-- Settles O4: the conditioner starts with three high samples of chip-select, so that tick 2 is the first to have a raw
sample in its level; START's action makes the Dispatcher's registers of tick 1. -/
theorem firstTicksSeeNoEdge : Obligations.FirstTicksSeeNoEdge := by
  rintro slots script v0 v1 t ⟨rfl, u, hstep0, rfl, w, hstep1, rfl⟩
  have hdisp := step_disp_of_exec (f := .start) rfl (exec_start _) hstep0
  have hhdr : u.hdr = 0xF0 := (congrArg (fun r : Dispatcher => topByte r.txPkt) hdisp).trans (topByte_withTopByte ..)
  refine ⟨rfl, BitVec.extractLsb'_zero, rfl, rfl, ?fsm, hhdr, ?dir, ?oe, ?rxValid, step_csFall hstep0,
    step_csRise hstep0, step_csS hstep0, step_rx_of_csHigh hstep0 rfl, step_tx_of_csHigh hstep0 rfl, ?fall⟩
  case fsm => exact congrArg Dispatcher.fsm hdisp
  case dir => exact congrArg Dispatcher.dir hdisp
  case oe => exact congrArg Dispatcher.oe hdisp
  case rxValid => exact congrArg Dispatcher.rxValid hdisp
  case fall => rw [step_csFall hstep1, step_csS hstep0, step_csFf0 hstep0]; rfl

end Machine
end Sys2Proof
end

section
/-! What every operation answers (10_state.md R51, 60_exceptions.md R220): a next state that differs in the registers of
the operation's own component. -/

namespace Sys2Proof
namespace Machine

/-- A state's action answers with the Dispatcher's registers replaced (R51). -/
theorem exec_op (f : Fsm) (s : State) : ∃ d : Dispatcher, exec f.op s = .next { s with disp := d } := by
  cases f with
  | start => exact ⟨_, exec_start s⟩
  | idle =>
    cases hfall : s.csFall with
    | true => exact ⟨_, exec_idle_of_csFall hfall⟩
    | false =>
      cases hpoll : s.poll with
      | none => exact ⟨s.disp, exec_idle_of_noRequest hfall hpoll⟩
      | some i => exact ⟨_, exec_idle_of_poll hfall hpoll⟩
  | okToSend => exact ⟨_, exec_okToSend s⟩
  | waitStmData => exact ⟨_, exec_waitStmData s⟩
  | receiving =>
    cases hrise : s.csRise with
    | true => exact ⟨_, exec_receiving_of_csRise hrise⟩
    | false => exact ⟨s.disp, exec_receiving_of_noRise hrise⟩
  | receiveHandshake =>
    cases hready : s.readyEff with
    | true => exact ⟨_, exec_receiveHandshake_of_ready hready⟩
    | false => exact ⟨s.disp, exec_receiveHandshake_of_notReady hready⟩
  | waitForTxn =>
    cases hrise : s.csRise with
    | true => exact ⟨_, exec_waitForTxn_of_csRise hrise⟩
    | false => exact ⟨s.disp, exec_waitForTxn_of_noRise hrise⟩
  | sendEvent => exact ⟨_, exec_sendEvent s⟩
  | sendingEvent => exact ⟨_, exec_sendingEvent s⟩
  | periphEvent => exact ⟨_, exec_periphEvent s⟩
  | sendData => exact ⟨_, exec_sendData s⟩
  | sending =>
    cases hrise : s.csRise with
    | true => exact ⟨_, exec_sending_of_csRise hrise⟩
    | false => exact ⟨s.disp, exec_sending_of_noRise hrise⟩

/-- The header operation of a byte stages the byte, whichever of the three rows it is (R86). -/
theorem exec_headerOp (b : WireByte) (s : State) :
    exec (headerOp b) s = .next { s with disp := { s.disp with txPkt := withTopByte s.disp.txPkt b } } := by
  by_cases hok : b = 0xF0
  · subst hok
    rfl
  · by_cases hbusy : b = 0xFF
    · subst hbusy
      rfl
    · rw [headerOp_of_notReserved hok hbusy]
      exact congrArg (fun h : WireByte => Host.Outcome.next (s.stageHeader h)) (nibbles_append b)

/-- An event header operation stages its two nibbles, also where it is ill formed (R86). -/
theorem exec_hdrEvent (bc : BitVec 4) (id : PeriphId) (s : State) :
    exec (.hdrEvent bc id) s = .next { s with disp := { s.disp with
      txPkt := withTopByte s.disp.txPkt (bc ++ id) } } := rfl

theorem exec_inbTrailer (id : PeriphId) (flags : FlagsField) (s : State) :
    exec (.inbTrailer id flags) s = .next { s with disp := { s.disp with destId := id, rxFlags := flags } } := rfl

/-- Nothing but the registers of the component `c` differs; header and trailer are the Dispatcher's (R51). -/
def sameButOwner (c : Component) (s t : State) : Prop :=
  match c with
  | .inputConditioner => sameButCond s t
  | .rxCodec => sameButRx s t
  | .txCodec => sameButTx s t
  | .dispatcher | .headerByte | .inboundTrailer => sameButDisp s t

/-- A state's action completes and writes the Dispatcher's registers alone. -/
theorem exec_op_frame (f : Fsm) (s : State) : ∃ t, exec f.op s = .next t ∧ sameButDisp s t := by
  obtain ⟨d, hd⟩ := exec_op f s
  exact ⟨_, hd, sameButDisp_with_disp s d⟩

/-- Every operation completes in every state and writes the registers of its own component alone (R51, R220). -/
theorem exec_frame (i : Instr) (s : State) : ∃ t, exec i s = .next t ∧ sameButOwner i.component s t := by
  cases i with
  | start => exact exec_op_frame .start s
  | idle => exact exec_op_frame .idle s
  | okToSend => exact exec_op_frame .okToSend s
  | waitStmData => exact exec_op_frame .waitStmData s
  | receiving => exact exec_op_frame .receiving s
  | receiveHandshake => exact exec_op_frame .receiveHandshake s
  | waitForTxn => exact exec_op_frame .waitForTxn s
  | sendEvent => exact exec_op_frame .sendEvent s
  | sendingEvent => exact exec_op_frame .sendingEvent s
  | periphEvent => exact exec_op_frame .periphEvent s
  | sendData => exact exec_op_frame .sendData s
  | sending => exact exec_op_frame .sending s
  | rxClear => exact ⟨_, exec_rxClear s, sameButRx_with_rx s _⟩
  | rxShift => exact ⟨_, exec_rxShift s, sameButRx_with_rx s _⟩
  | rxHold => exact ⟨_, exec_rxHold s, sameButRx_with_rx s _⟩
  | txClear => exact ⟨_, exec_txClear s, sameButTx_with_tx s _⟩
  | txLoad => exact ⟨_, exec_txLoad s, sameButTx_with_tx s _⟩
  | txShift => exact ⟨_, exec_txShift s, sameButTx_with_tx s _⟩
  | txHold => exact ⟨_, exec_txHold s, sameButTx_with_tx s _⟩
  | cond => exact ⟨_, exec_cond s, rfl, rfl, rfl, rfl, rfl, rfl⟩
  | hdrOkToSend => exact ⟨_, exec_headerOp okToSendByte s, sameButDisp_with_disp s _⟩
  | hdrNotReady => exact ⟨_, exec_headerOp notReadyByte s, sameButDisp_with_disp s _⟩
  | hdrEvent bc id => exact ⟨_, exec_hdrEvent bc id s, sameButDisp_with_disp s _⟩
  | inbTrailer id flags => exact ⟨_, exec_inbTrailer id flags s, sameButDisp_with_disp s _⟩

/-- Settles O16: the one answer of an operation is the one with its frame. -/
theorem everyRegisterHasOneWriter : Obligations.EveryRegisterHasOneWriter := by
  intro i s t h
  obtain ⟨u, hu, hframe⟩ := exec_frame i s
  cases hu.symm.trans h
  cases hcomponent : i.component <;> rw [hcomponent] at hframe <;> exact hframe

/-- A tick's operations all complete, so the tick does; it joins their answers (R70). -/
theorem step_completes (s : State) :
    ∃ a b c d, exec .cond s = .next a ∧ exec (rxOp s.controlVec) s = .next b ∧ exec (txOp s.controlVec) s = .next c ∧
      exec s.disp.fsm.op s = .next d ∧ step s = .next (s.join a b c d) := by
  obtain ⟨a, ha, -⟩ := exec_frame .cond s
  obtain ⟨b, hb, -⟩ := exec_frame (rxOp s.controlVec) s
  obtain ⟨c, hc, -⟩ := exec_frame (txOp s.controlVec) s
  obtain ⟨d, hd, -⟩ := exec_frame s.disp.fsm.op s
  exact ⟨a, b, c, d, ha, hb, hc, hd, (step_next_iff s _).mpr ⟨a, b, c, d, ha, hb, hc, hd, rfl⟩⟩

/-- Settles O15: a tick completes because each of its operations does, and so does every operation. -/
theorem everyTickCompletes : Obligations.EveryTickCompletes := by
  refine ⟨fun s => ?tick, fun i s => ?operation⟩
  case tick =>
    obtain ⟨a, b, c, d, -, -, -, -, hstep⟩ := step_completes s
    exact ⟨_, hstep⟩
  case operation =>
    obtain ⟨t, ht, -⟩ := exec_frame i s
    exact ⟨t, ht⟩

/-- Settles O14: the words of the tick decode to the operations it runs. -/
theorem stepRunsTheDecodedOperations : Obligations.StepRunsTheDecodedOperations := by
  intro s r x d hr hx hd
  obtain rfl : rxOp s.controlVec = r := Except.ok.inj ((decode_rxCodec s.controlVec).symm.trans hr)
  obtain rfl : txOp s.controlVec = x := Except.ok.inj ((decode_txCodec s.controlVec).symm.trans hx)
  obtain rfl : s.disp.fsm.op = d := Except.ok.inj ((decode_fsmCode s.disp.fsm).symm.trans hd)
  obtain ⟨a, b, e, f, ha, hb, he, hf, hstep⟩ := step_completes s
  exact ⟨a, b, e, f, _, ha, hb, he, hf, hstep, rfl, rfl, rfl, rfl, rfl, rfl, rfl⟩

/-- The top two symbols of a packet are the nibbles of its top byte (R62). -/
theorem nibbles_topByte (p : Packet) :
    p.extractLsb' 124 4 = (topByte p).extractLsb' 4 4 ∧ p.extractLsb' 120 4 = (topByte p).extractLsb' 0 4 := by
  have hhigh : 4 + 4 ≤ 8 := by decide
  have hlow : 0 + 4 ≤ 8 := by decide
  exact ⟨(extractLsb'_of_extractLsb' p hhigh).symm, (extractLsb'_of_extractLsb' p hlow).symm⟩

/-- The byte staged by a header write, nibble by nibble (R86). -/
theorem withTopByte_append_spec (p : Packet) (a b : BitVec 4) :
    (withTopByte p (a ++ b)).extractLsb' 124 4 = a ∧ (withTopByte p (a ++ b)).extractLsb' 120 4 = b := by
  obtain ⟨hhigh, hlow⟩ := nibbles_topByte (withTopByte p (a ++ b))
  rw [topByte_withTopByte] at hhigh hlow
  exact ⟨hhigh.trans BitVec.extractLsb'_append_eq_left, hlow.trans BitVec.extractLsb'_append_eq_right⟩

/-- Settles O42: each of the four answers with the header byte, or the two trailer fields, replaced. -/
theorem wireFormatOperationsWriteTheirFields : Obligations.WireFormatOperationsWriteTheirFields := by
  intro s bc id flags
  refine ⟨⟨_, exec_headerOp okToSendByte s, sameButDisp_with_disp s _, rfl, withTopByte_spec _ okToSendByte⟩,
    ⟨_, exec_headerOp notReadyByte s, sameButDisp_with_disp s _, rfl, withTopByte_spec _ notReadyByte⟩,
    ⟨_, exec_hdrEvent bc id s, sameButDisp_with_disp s _, rfl, ?_⟩,
    ⟨_, exec_inbTrailer id flags s, sameButDisp_with_disp s _, rfl⟩⟩
  obtain ⟨hbc, hid⟩ := withTopByte_append_spec s.disp.txPkt bc id
  obtain ⟨-, hrest⟩ := withTopByte_spec s.disp.txPkt (bc ++ id)
  exact ⟨hbc, hid, hrest⟩

/-- Settles O32: START's one answer stages the header, and no move of the Dispatcher leads to START. -/
theorem startPreloadsTheHeader : Obligations.StartPreloadsTheHeader :=
  ⟨fun s => ⟨_, exec_start s, sameButDisp_with_disp s _, rfl, withTopByte_spec _ okToSendByte⟩,
    fun _ _ hstep => (step_dispStep hstep).fsm_ne_start⟩

/-- Settles O38: the two branches of RECEIVE_HANDSHAKE; what they test is `ready_eff` written out (R192). -/
theorem handshakeCompletesOrStalls : Obligations.HandshakeCompletesOrStalls := fun s =>
  ⟨fun hready => ⟨_, exec_receiveHandshake_of_ready hready, sameButDisp_with_disp s _, rfl⟩,
    exec_receiveHandshake_of_notReady⟩

/-- Settles O31: the codecs' own conditions decide: RX_SHIFT asks for a clock edge with chip-select low, TX_LOAD for
`cs_fall` whatever the clock does, and both clear at a high chip-select. -/
theorem coincidentEdges : Obligations.CoincidentEdges := by
  refine fun s t h => ⟨fun hfall hclk => ?shifts, fun hfall _ => ?loads, fun hrise => ?clears⟩
  case shifts =>
    rw [step_rx_of_rxEdge h ((rxEdge_iff s).mpr ⟨csS_of_csFall hfall, hclk⟩)]
    exact push_spec s.rx s.input.dqIn
  case loads =>
    rw [step_tx_of_csFall h hfall]
    exact ⟨rfl, rfl⟩
  case clears => exact ⟨step_rx_of_csHigh h (csS_of_csRise hrise), step_tx_of_csHigh h (csS_of_csRise hrise)⟩

end Machine
end Sys2Proof
end

section
/-! What the Dispatcher reads in a tick (10_state.md R46, 43_dispatcher.md section 3): its move determines its next
registers, and states that agree in what an action reads make the same move. -/

namespace Sys2Proof
namespace Machine

variable {s s' t t' : State} {d d' : Dispatcher}

/-! ## A move is the answer of the action -/

theorem exec_of_dispWaits (h : s.dispWaits = true) : exec s.disp.fsm.op s = .next s := by
  obtain ⟨hstart, hwait, hperiph⟩ := fsm_of_dispWaits h
  cases hfsm : s.disp.fsm <;> simp only [State.dispWaits, hfsm, Bool.not_eq_true', Bool.and_eq_true,
    Option.isNone_iff_eq_none] at h
  case start => exact absurd hfsm hstart
  case idle =>
    obtain ⟨hfall, hpoll⟩ := h
    exact exec_idle_of_noRequest hfall hpoll
  case okToSend => exact (exec_okToSend s).trans (by rw [if_neg (ne_true_of_eq_false h)])
  case waitStmData => exact absurd hfsm hwait
  case receiving => exact exec_receiving_of_noRise h
  case receiveHandshake => exact exec_receiveHandshake_of_notReady h
  case waitForTxn => exact exec_waitForTxn_of_noRise h
  case sendEvent => exact (exec_sendEvent s).trans (by rw [if_neg (ne_true_of_eq_false h)])
  case sendingEvent => exact (exec_sendingEvent s).trans (by rw [if_neg (ne_true_of_eq_false h)])
  case periphEvent => exact absurd hfsm hperiph
  case sendData => exact (exec_sendData s).trans (by rw [if_neg (ne_true_of_eq_false h)])
  case sending => exact exec_sending_of_noRise h

/-- The answer of the action that `fsm` selects. -/
theorem exec_op_of_fsm {f : Fsm} {o : Result} (hfsm : s.disp.fsm = f) (ho : exec f.op s = o) :
    exec s.disp.fsm.op s = o :=
  hfsm ▸ ho

/-- The moves are no more than what the actions answer. -/
theorem DispStep.exec_eq (h : DispStep s d) : exec s.disp.fsm.op s = .next { s with disp := d } := by
  cases h with
  | starts hfsm => exact exec_op_of_fsm hfsm (exec_start s)
  | probeBegins hfsm hfall => exact exec_op_of_fsm hfsm (exec_idle_of_csFall hfall)
  | grants i hfsm hquiet hpoll =>
    exact exec_op_of_fsm hfsm ((exec_idle_of_poll hquiet hpoll).trans (by rw [BitVec.ofNat_toNat, BitVec.setWidth_eq]))
  | probeEnds hfsm hrise => exact exec_op_of_fsm hfsm ((exec_okToSend s).trans (by rw [if_pos hrise]))
  | dropsOe hfsm hquiet =>
    exact exec_op_of_fsm hfsm ((exec_waitStmData s).trans (by rw [if_neg (ne_true_of_eq_false hquiet)]))
  | writeBegins hfsm hfall => exact exec_op_of_fsm hfsm ((exec_waitStmData s).trans (by rw [if_pos hfall]))
  | writeEnds hfsm hrise => exact exec_op_of_fsm hfsm (exec_receiving_of_csRise hrise)
  | accepted hfsm hready => exact exec_op_of_fsm hfsm (exec_receiveHandshake_of_ready hready)
  | followUpEnds hfsm hrise => exact exec_op_of_fsm hfsm (exec_waitForTxn_of_csRise hrise)
  | dummyReadBegins hfsm hfall => exact exec_op_of_fsm hfsm ((exec_sendEvent s).trans (by rw [if_pos hfall]))
  | dummyReadEnds hfsm hrise => exact exec_op_of_fsm hfsm ((exec_sendingEvent s).trans (by rw [if_pos hrise]))
  | copiesPacket hfsm => exact exec_op_of_fsm hfsm (exec_periphEvent s)
  | readBegins hfsm hfall => exact exec_op_of_fsm hfsm ((exec_sendData s).trans (by rw [if_pos hfall]))
  | readEnds hfsm hrise => exact exec_op_of_fsm hfsm (exec_sending_of_csRise hrise)
  | waits hwaits => exact exec_of_dispWaits hwaits

/-- In a tick the Dispatcher has one move. -/
theorem DispStep.unique (h : DispStep s d) (h' : DispStep s d') : d = d' := by
  cases h.exec_eq.symm.trans h'.exec_eq
  rfl

/-! ## What a move reads -/

/-- The two states agree in all that a Dispatcher action reads: the byteCount of the polled peripheral and the packet of
the granted one are read in the state that uses them. -/
structure SameReads (s s' : State) : Prop where
  disp : s.disp = s'.disp
  rx : s.rx = s'.rx
  csFall : s.csFall = s'.csFall
  csRise : s.csRise = s'.csRise
  poll : s.poll = s'.poll
  bc : ∀ i, s.poll = some i → (s.input.periph i).bc = (s'.input.periph i).bc
  ready : s.readyEff = s'.readyEff
  pkt : s.disp.fsm = .periphEvent →
    (s.input.periph s.disp.evtId.toNat).pkt = (s'.input.periph s.disp.evtId.toNat).pkt

theorem SameReads.dispWaits_eq (hr : SameReads s s') : s.dispWaits = s'.dispWaits := by
  unfold State.dispWaits
  rw [hr.disp, hr.csFall, hr.csRise, hr.poll, hr.ready]

/-- A move depends on nothing that the action does not read. -/
theorem DispStep.congr (h : DispStep s d) (hr : SameReads s s') : DispStep s' d := by
  have hwaitsEq := hr.dispWaits_eq
  obtain ⟨hdisp, hrx, hfallEq, hriseEq, hpollEq, hbcEq, hreadyEq, hpktEq⟩ := hr
  cases h <;> rw [hdisp] at *
  case starts hfsm => exact .starts hfsm
  case probeBegins hfsm hfall => exact .probeBegins hfsm (hfallEq ▸ hfall)
  case grants i hfsm hquiet hpoll =>
    rw [hbcEq _ hpoll]
    exact .grants i hfsm (hfallEq ▸ hquiet) (hpollEq ▸ hpoll)
  case probeEnds hfsm hrise => exact .probeEnds hfsm (hriseEq ▸ hrise)
  case dropsOe hfsm hquiet => exact .dropsOe hfsm (hfallEq ▸ hquiet)
  case writeBegins hfsm hfall => exact .writeBegins hfsm (hfallEq ▸ hfall)
  case writeEnds hfsm hrise =>
    rw [hrx]
    exact .writeEnds hfsm (hriseEq ▸ hrise)
  case accepted hfsm hready => exact .accepted hfsm (hreadyEq ▸ hready)
  case followUpEnds hfsm hrise => exact .followUpEnds hfsm (hriseEq ▸ hrise)
  case dummyReadBegins hfsm hfall => exact .dummyReadBegins hfsm (hfallEq ▸ hfall)
  case dummyReadEnds hfsm hrise => exact .dummyReadEnds hfsm (hriseEq ▸ hrise)
  case copiesPacket hfsm =>
    rw [hpktEq hfsm]
    exact .copiesPacket hfsm
  case readBegins hfsm hfall => exact .readBegins hfsm (hfallEq ▸ hfall)
  case readEnds hfsm hrise => exact .readEnds hfsm (hriseEq ▸ hrise)
  case waits hwaits => exact .waits (hwaitsEq ▸ hwaits)

/-- Two ticks that agree in what the action reads give the same Dispatcher registers. -/
theorem SameReads.step_disp_eq (hr : SameReads s s') (h : step s = .next t) (h' : step s' = .next t') :
    t.disp = t'.disp :=
  ((step_dispStep h).congr hr).unique (step_dispStep h')

end Machine
end Sys2Proof
end

section
/-! The tick as a whole (10_state.md R40, R51, 20_memory.md R70, R76): one order of its operations that gives the same
registers, the inputs that no register depends on, and the model's own fields along a run. -/

namespace Sys2Proof
namespace Machine

variable {s s' t t' : State}

/-! ## One after the other -/

/-- The Rx operation that a tick `s` selects, performed on any state (R121 to R123). -/
theorem exec_rxOp (s u : State) :
    exec (rxOp s.controlVec) u = .next { u with rx :=
      if s.csS then ⟨0, 0⟩ else if s.clkRise then u.rx.push u.input.dqIn else u.rx } := by
  rw [rxOp_controlVec]
  split_ifs
  · exact exec_rxClear u
  · exact exec_rxShift u
  · exact exec_rxHold u

/-- The Tx operation that a tick `s` selects, performed on any state (R136 to R139). -/
theorem exec_txOp (s u : State) :
    exec (txOp s.controlVec) u = .next { u with tx :=
      if s.csS then ⟨0, 0⟩ else if s.cond.csPrev then ⟨u.disp.txPkt, 0⟩
      else if s.clkFall then u.tx.shift else u.tx } := by
  rw [txOp_controlVec]
  split_ifs
  · exact exec_txClear u
  · exact exec_txLoad u
  · exact exec_txShift u
  · exact exec_txHold u

/-- No Dispatcher action reads the Tx registers. -/
theorem sameReads_with_tx (s : State) (x : TxCodec) : SameReads s { s with tx := x } :=
  ⟨rfl, rfl, rfl, rfl, rfl, fun _ _ => rfl, rfl, fun _ => rfl⟩

/-- A Dispatcher action answers the same registers whatever the Tx registers are. -/
theorem exec_op_with_tx {d : Dispatcher} (x : TxCodec) (h : exec s.disp.fsm.op s = .next { s with disp := d }) :
    exec s.disp.fsm.op { s with tx := x } = .next { s with tx := x, disp := d } :=
  ((dispStep_of_exec h).congr (sameReads_with_tx s x)).exec_eq

/-- Settles O17: the Tx operation leaves alone what the action reads, both leave alone what the Rx operation reads, and
COND reads its own registers and the inputs alone. -/
theorem sequentialOrderGivesTheTick : Obligations.SequentialOrderGivesTheTick := by
  intro s s1 s2 s3 s4 htx hdisp hrx hcond
  obtain ⟨d, hd⟩ := exec_op s.disp.fsm s
  cases (exec_txOp s s).symm.trans htx
  cases (exec_op_with_tx _ hd).symm.trans hdisp
  cases (exec_rxOp s _).symm.trans hrx
  cases (exec_cond _).symm.trans hcond
  exact (step_next_iff s _).mpr ⟨_, _, _, _, exec_cond s, exec_rxOp s s, exec_txOp s s, hd, rfl⟩

/-! ## Inputs that are not read -/

/-- The poll depends on the requests alone. -/
theorem poll_congr (h : ∀ i, s.requests i = s'.requests i) : s.poll = s'.poll :=
  congrArg (List.find? · (List.range Config.maxPeriphs)) (funext h)

/-- Edges of chip-select are between its history and its level (R114). -/
theorem csFall_congr (hprev : s.cond.csPrev = s'.cond.csPrev) (hcs : s.csS = s'.csS) : s.csFall = s'.csFall := by
  rw [State.csFall, State.csFall, hprev, hcs]

theorem csRise_congr (hprev : s.cond.csPrev = s'.cond.csPrev) (hcs : s.csS = s'.csS) : s.csRise = s'.csRise := by
  rw [State.csRise, State.csRise, hprev, hcs]

/-- `ready_eff` reads `p_ready` of an inbound-capable destination, and `UNREG_READY` for any other (R192). -/
theorem readyEff_congr (hdisp : s.disp = s'.disp) (hslots : s.slots = s'.slots)
    (hunreg : s.input.unregReady = s'.input.unregReady)
    (hready : ∀ i, s.slots.canReceive i = true → (s.input.periph i).ready = (s'.input.periph i).ready) :
    s.readyEff = s'.readyEff := by
  rw [State.readyEff, State.readyEff, ← hdisp, ← hslots]
  split_ifs with hrecv
  · exact hready _ hrecv
  · exact hunreg

/-- `p_valid` is read behind `can_send` (R46, R153). -/
theorem requests_congr (hslots : s.slots = s'.slots)
    (hvalid : ∀ i, s.slots.canSend i = true → (s.input.periph i).valid = (s'.input.periph i).valid) (i : Nat) :
    s.requests i = s'.requests i := by
  rw [State.requests, State.requests, ← hslots]
  cases hsend : s.slots.canSend i with
  | true => rw [hvalid i hsend]
  | false => rfl

/-- Settles O48: the hypotheses name all that a Dispatcher action reads. -/
theorem dispatcherIgnoresClockAndData : Obligations.DispatcherIgnoresClockAndData := by
  intro s s' t t' hdisp hslots hrx hprev hcs hperiphs hunreg hstep hstep'
  have hperiph (i : Nat) : s.input.periph i = s'.input.periph i := by
    rw [TickIn.periph, TickIn.periph, hperiphs]
  refine SameReads.step_disp_eq ⟨hdisp, hrx, csFall_congr hprev hcs, csRise_congr hprev hcs, ?poll, ?bc, ?ready, ?pkt⟩
    hstep hstep'
  case poll => exact poll_congr (requests_congr hslots fun i _ => congrArg PeriphIn.valid (hperiph i))
  case bc => exact fun i _ => congrArg PeriphIn.bc (hperiph i)
  case ready => exact readyEff_congr hdisp hslots hunreg fun i _ => congrArg PeriphIn.ready (hperiph i)
  case pkt => exact fun _ => congrArg PeriphIn.pkt (hperiph _)

/-- Settles O49: the poll asks for `can_send` and finds only such slots, a granted slot has it by the status invariant,
`ready_eff` asks for `can_receive`, and the other components read no peripheral input at all. -/
theorem absentInputsAreNeverRead : Obligations.AbsentInputsAreNeverRead := by
  intro s s' t t' hs hcond hrx htx hdisp hslots hcsRaw hclkRaw hdq hunreg hsend hrecv hstep hstep'
  have hprev : s.cond.csPrev = s'.cond.csPrev := congrArg Conditioner.csPrev hcond
  have hcs : s.csS = s'.csS := congrArg Conditioner.csFf1 hcond
  have hclkRise : s.clkRise = s'.clkRise := congrArg (fun c : Conditioner => !c.clkPrev && c.clkFf1) hcond
  have hclkFall : s.clkFall = s'.clkFall := congrArg (fun c : Conditioner => c.clkPrev && !c.clkFf1) hcond
  refine ⟨?cond, ?rx, ?tx, ?disp⟩
  case cond => rw [step_cond hstep, step_cond hstep', hcond, hcsRaw, hclkRaw]
  case rx => rw [step_rx hstep, step_rx hstep', hcs, hclkRise, hrx, hdq]
  case tx => rw [step_tx hstep, step_tx hstep', hcs, hprev, hclkFall, hdisp, htx]
  case disp =>
    refine SameReads.step_disp_eq ⟨hdisp, hrx, csFall_congr hprev hcs, csRise_congr hprev hcs, ?poll, ?bc, ?ready,
      ?pkt⟩ hstep hstep'
    case poll =>
      refine poll_congr (requests_congr hslots fun i hi => ?_)
      obtain ⟨hvalid, -, -⟩ := hsend i hi
      exact hvalid
    case bc =>
      intro i hpoll
      obtain ⟨-, -, hbc⟩ := hsend i (canSend_of_poll hpoll)
      exact hbc
    case ready => exact readyEff_congr hdisp hslots hunreg hrecv
    case pkt =>
      intro hperiph
      have hgranted : s.slots.canSend s.disp.evtId.toNat = true := hs.evtSlot (by rw [hperiph]; rfl)
      obtain ⟨-, hpkt, -⟩ := hsend _ hgranted
      exact hpkt

/-! ## The model's own fields -/

/-- A tick uses up one tick's inputs and counts one. -/
theorem step_script_tick (h : step s = .next t) : t.script = s.script.tail ∧ t.tick = s.tick + 1 := by
  obtain ⟨a, b, c, d, -, -, -, -, rfl⟩ := (step_next_iff s t).mp h
  exact ⟨rfl, rfl⟩

/-- A run uses up one tick's inputs for each of its ticks and counts them. -/
theorem path_script_tick {vs : List State} (hp : Path s vs t) :
    t.script = s.script.drop vs.length ∧ t.tick = s.tick + vs.length := by
  induction vs generalizing s with
  | nil =>
    obtain rfl := hp
    exact ⟨rfl, rfl⟩
  | cons v vs ih =>
    obtain ⟨rfl, u, hu, hrest⟩ := (path_cons _ _ _ _).mp hp
    obtain ⟨hscript, htick⟩ := ih hrest
    obtain ⟨hone, hcount⟩ := step_script_tick hu
    rw [hone, List.drop_tail] at hscript
    exact ⟨hscript, by rw [htick, hcount, List.length_cons]; omega⟩

/-- Settles O20: no tick writes the table, and each uses up one tick's inputs. -/
theorem slotTableIsNeverWritten : Obligations.SlotTableIsNeverWritten := by
  intro s vs t hp
  exact ⟨path_slots hp, path_script_tick hp⟩

end Machine
end Sys2Proof
end

section
/-! The header and trailer operations of a tick (30_encoding.md section 1; log entries 8 and 9): that each has its
effect in the tick that contains it, and that a state arranged for an operation performs it. -/

namespace Sys2Proof
namespace Machine

variable {s t : State} {d : Dispatcher}

/-! ## Which of them a tick contains -/

theorem headerOp_okToSend : headerOp okToSendByte = .hdrOkToSend := rfl

theorem headerOp_notReady : headerOp notReadyByte = .hdrNotReady := rfl

/-- A state that waits stages no header and latches no trailer. -/
theorem wireOps_of_dispWaits (h : s.dispWaits = true) : s.wireOps = [] := by
  obtain ⟨hstart, -, -⟩ := fsm_of_dispWaits h
  cases hfsm : s.disp.fsm <;> simp_all [State.dispWaits, State.wireOps]

/-- A grant stages the header of the polled peripheral (R153). -/
theorem wireOps_of_grant {i : Nat} (hfsm : s.disp.fsm = .idle) (hquiet : s.csFall = false) (hpoll : s.poll = some i) :
    s.wireOps = [headerOp (eventHeader (s.input.periph i).bc (BitVec.ofNat 4 i))] := by
  simp [State.wireOps, hfsm, hquiet, hpoll]

/-- The end of a write stages `NOT_READY` and latches the top byte of `rx_buf` (R158). -/
theorem wireOps_of_writeEnds (hfsm : s.disp.fsm = .receiving) (hrise : s.csRise = true) :
    s.wireOps = [.hdrNotReady, trailerOp (topByte s.rx.buf)] := by
  simp [State.wireOps, hfsm, hrise, trailerOp_topByte]

/-- A header operation of a tick is that of the byte the Dispatcher's move stages, the trailer operation that of the
fields it latches. -/
theorem DispStep.mem_wireOps (h : DispStep s d) {i : Instr} (hi : i ∈ s.wireOps) :
    i = headerOp (topByte d.txPkt) ∨ i = .inbTrailer d.destId d.rxFlags := by
  cases h with
  | starts hfsm => exact .inl (by simpa [State.wireOps, hfsm, headerOp_okToSend] using hi)
  | grants j hfsm hquiet hpoll => exact .inl (by simpa [wireOps_of_grant hfsm hquiet hpoll] using hi)
  | writeEnds hfsm hrise => simpa [wireOps_of_writeEnds hfsm hrise, trailerOp_topByte, headerOp_notReady] using hi
  | followUpEnds hfsm hrise => exact .inl (by simpa [State.wireOps, hfsm, hrise, headerOp_okToSend] using hi)
  | readEnds hfsm hrise => exact .inl (by simpa [State.wireOps, hfsm, hrise, headerOp_okToSend] using hi)
  | waits hwaits => simp [wireOps_of_dispWaits hwaits] at hi
  | _ => simp [State.wireOps, *] at hi

/-- Settles O18: the operation carries the very byte, or the very fields, that the tick's move writes. -/
theorem wireOperationsTakeEffectInTheTick : Obligations.WireOperationsTakeEffectInTheTick := by
  intro s i u t hi hexec hstep
  rcases (step_dispStep hstep).mem_wireOps hi with rfl | rfl
  case inl =>
    cases (exec_headerOp _ s).symm.trans hexec
    obtain ⟨hcomponent, -, -⟩ := headerOp_spec (topByte t.disp.txPkt)
    refine ⟨fun _ => (topByte_withTopByte ..).symm, fun htrailer => ?_⟩
    cases hcomponent.symm.trans htrailer
  case inr =>
    cases (exec_inbTrailer _ _ s).symm.trans hexec
    exact ⟨nofun, fun _ => ⟨rfl, rfl⟩⟩

/-! ## The operations of a tick -/

theorem op_mem_tickOps (s : State) : s.disp.fsm.op ∈ s.tickOps := by
  simp [State.tickOps]

theorem rxOp_mem_tickOps {c : ControlVec} (h : s.controlVec = c) : rxOp c ∈ s.tickOps := by
  simp [State.tickOps, h]

theorem txOp_mem_tickOps {c : ControlVec} (h : s.controlVec = c) : txOp c ∈ s.tickOps := by
  simp [State.tickOps, h]

theorem mem_tickOps_of_mem_wireOps {i : Instr} (h : i ∈ s.wireOps) : i ∈ s.tickOps :=
  List.mem_append_right _ h

/-! ## The arrangement -/

/-- The conditioner shows the control vector it was given (R96). -/
theorem controlVec_withControl (s : State) (c : ControlVec) : (s.withControl c).controlVec = c := by
  have hbits : ∀ v : ControlVec, BitVec.ofBool (v.getLsbD 3) ++ BitVec.ofBool (v.getLsbD 2) ++
      BitVec.ofBool (v.getLsbD 1) ++ BitVec.ofBool (v.getLsbD 0) = v := by decide
  exact hbits c

/-- The slot of a sender below 15 is outbound-capable. -/
theorem canSend_withSender (s : State) {i : Nat} (hi : i < 15) : (s.withSender i).slots.canSend i = true := by
  simp [State.withSender, SlotTable.canSend, SlotTable.slot, hi]

theorem periph_withPeriph_self (x : TickIn) {i : Nat} (p : PeriphIn) (hi : i < 15) :
    (x.withPeriph i p).periph i = p := by
  simp [TickIn.withPeriph, TickIn.periph, hi]

theorem periph_withPeriph_ne (x : TickIn) {i j : Nat} (p : PeriphIn) (hij : i ≠ j) :
    (x.withPeriph i p).periph j = x.periph j := by
  simp [TickIn.withPeriph, TickIn.periph, hij]

/-- In a quiet tick no peripheral is valid. -/
theorem valid_quietTick (i : Nat) : (quietTick.periph i).valid = false := by
  by_cases hi : i < 15 <;> simp [quietTick, TickIn.host, TickIn.periph, PeriphIn.quiet, hi]

/-- In the state arranged for an event header the poll finds its id, the only one that is valid. -/
theorem poll_place_hdrEvent (s : State) (bc : BitVec 4) (id : PeriphId) (hid : id.toNat < 15) :
    (s.place (.hdrEvent bc id)).poll = some id.toNat := by
  refine (poll_eq_some_iff _ _).mpr ⟨(requests_iff _ _).mpr ⟨?sends, ?valid⟩,
    fun j hj => Bool.eq_false_iff.mpr fun hreq => ?_⟩
  case sends => exact canSend_withSender _ hid
  case valid => exact congrArg PeriphIn.valid (periph_withPeriph_self quietTick _ hid)
  obtain ⟨-, hvalid⟩ := (requests_iff _ _).mp hreq
  have hquiet : ((s.place (.hdrEvent bc id)).input.periph j).valid = false :=
    (congrArg PeriphIn.valid (periph_withPeriph_ne quietTick _ (Nat.ne_of_gt hj))).trans (valid_quietTick j)
  exact ne_true_of_eq_false hquiet hvalid

/-- The byte of an event header from a byteCount of its nibble (R89). -/
theorem eventHeader_setWidth (bc : BitVec 4) (id : PeriphId) : eventHeader (bc.setWidth 5) id = bc ++ id := by
  rw [eventHeader_eq_append, BitVec.setWidth_setWidth_of_le bc (by decide), BitVec.setWidth_eq]

theorem hdrEvent_mem_wireOps_place (s : State) {bc : BitVec 4} {id : PeriphId}
    (hwf : (Instr.hdrEvent bc id).wellFormed = true) (hid : id.toNat < 15) :
    Instr.hdrEvent bc id ∈ (s.place (.hdrEvent bc id)).wireOps := by
  have hbc : ((s.place (.hdrEvent bc id)).input.periph id.toNat).bc = bc.setWidth 5 :=
    congrArg PeriphIn.bc (periph_withPeriph_self quietTick _ hid)
  rw [wireOps_of_grant rfl rfl (poll_place_hdrEvent s bc id hid), hbc, BitVec.ofNat_toNat, BitVec.setWidth_eq,
    eventHeader_setWidth, headerOp_append_of_wellFormed hwf]
  exact List.mem_singleton_self _

theorem inbTrailer_mem_wireOps_place (s : State) (id : PeriphId) (flags : FlagsField) :
    Instr.inbTrailer id flags ∈ (s.place (.inbTrailer id flags)).wireOps := by
  have htop : topByte (s.place (.inbTrailer id flags)).rx.buf = id ++ flags := topByte_withTopByte ..
  rw [wireOps_of_writeEnds rfl rfl, htop, trailerOp_append]
  exact List.mem_cons_of_mem _ (List.mem_singleton_self _)

/-- Settles O19: an action's state is in `fsm`, a codec operation's vector in the conditioner, and a header or trailer
operation is one that the arranged action contains. -/
theorem placedOperationIsInTheTick : Obligations.PlacedOperationIsInTheTick := by
  intro s i hwf hid
  cases i with
  | start => exact op_mem_tickOps (s.place .start)
  | idle => exact op_mem_tickOps (s.place .idle)
  | okToSend => exact op_mem_tickOps (s.place .okToSend)
  | waitStmData => exact op_mem_tickOps (s.place .waitStmData)
  | receiving => exact op_mem_tickOps (s.place .receiving)
  | receiveHandshake => exact op_mem_tickOps (s.place .receiveHandshake)
  | waitForTxn => exact op_mem_tickOps (s.place .waitForTxn)
  | sendEvent => exact op_mem_tickOps (s.place .sendEvent)
  | sendingEvent => exact op_mem_tickOps (s.place .sendingEvent)
  | periphEvent => exact op_mem_tickOps (s.place .periphEvent)
  | sendData => exact op_mem_tickOps (s.place .sendData)
  | sending => exact op_mem_tickOps (s.place .sending)
  | rxClear => exact rxOp_mem_tickOps (s := s.place .rxClear) (controlVec_withControl s 0b0100)
  | rxShift => exact rxOp_mem_tickOps (s := s.place .rxShift) (controlVec_withControl s 0b0001)
  | rxHold => exact rxOp_mem_tickOps (s := s.place .rxHold) (controlVec_withControl s 0b0000)
  | txClear => exact txOp_mem_tickOps (s := s.place .txClear) (controlVec_withControl s 0b0100)
  | txLoad => exact txOp_mem_tickOps (s := s.place .txLoad) (controlVec_withControl s 0b1000)
  | txShift => exact txOp_mem_tickOps (s := s.place .txShift) (controlVec_withControl s 0b0010)
  | txHold => exact txOp_mem_tickOps (s := s.place .txHold) (controlVec_withControl s 0b0000)
  | cond => exact List.mem_cons_self
  | hdrOkToSend => exact mem_tickOps_of_mem_wireOps (List.mem_singleton_self _)
  | hdrNotReady =>
    refine mem_tickOps_of_mem_wireOps ?_
    rw [wireOps_of_writeEnds rfl rfl]
    exact List.mem_cons_self
  | hdrEvent bc id =>
    have hne : id.toNat ≠ 15 := fun h => hid bc id rfl (BitVec.eq_of_toNat_eq h)
    have hlt : id.toNat < 16 := id.isLt
    exact mem_tickOps_of_mem_wireOps (hdrEvent_mem_wireOps_place s hwf (by omega))
  | inbTrailer id flags => exact mem_tickOps_of_mem_wireOps (inbTrailer_mem_wireOps_place s id flags)

end Machine
end Sys2Proof
end

section
/-! The Dispatcher as a whole (43_dispatcher.md section 2, 10_state.md section 7, 44_peripheral_interface.md section 2):
the state after a move, the moves that write a status bit, and the strobes. -/

namespace Sys2Proof
namespace Machine

variable {s t : State} {d : Dispatcher}

/-! ## The poll -/

/-- The poll finds an id exactly if one of the fifteen is outbound-capable and valid (R153). -/
theorem any_requests_eq (s : State) :
    ((List.range 15).any fun i => s.slots.canSend i && (s.input.periph i).valid) = s.poll.isSome :=
  (List.isSome_find? ..).symm

/-- An outbound-capable slot is a registered one (R40). -/
theorem registered_of_canSend {slots : SlotTable} {i : Nat} (h : slots.canSend i = true) : slots.registered i = true :=
  Option.isSome_of_any h

/-- Settles O47: the poll is the least of the requesting ids, which `can_send` bounds by NUM_PERIPHS. -/
theorem pollFindsTheLeastRequester : Obligations.PollFindsTheLeastRequester := by
  refine fun s => ⟨poll_eq_some_iff s, poll_eq_none_iff s, fun i hreq => ?_⟩
  obtain ⟨hsend, -⟩ := (requests_iff s i).mp hreq
  obtain ⟨hbelow, hlt⟩ := canSend_lt s.slots i hsend
  exact ⟨hlt, hbelow, registered_of_canSend hsend⟩

/-! ## The transition table -/

/-- Settles O45: each move is a row of the table with its condition; where the state waits, the row's condition is
absent. -/
theorem controlFlowIsTheTable : Obligations.ControlFlowIsTheTable := by
  intro s t hstep
  rw [any_requests_eq]
  have hmove : DispStep s t.disp := step_dispStep hstep
  generalize t.disp = d at hmove
  cases hmove with
  | waits hwaits =>
    obtain ⟨hstart, hwait, hperiph⟩ := fsm_of_dispWaits hwaits
    cases hfsm : s.disp.fsm <;> simp_all [State.dispWaits]
  | _ => simp [*]

/-! ## The status bits -/

theorem DispStep.dir_rises (h : DispStep s d) (hbefore : s.disp.dir = false) (hafter : d.dir = true) :
    s.disp.fsm = .idle ∧ s.csFall = false ∧ ∃ i, s.requests i = true := by
  cases h with
  | grants i hfsm hquiet hpoll => exact ⟨hfsm, hquiet, _, ((poll_eq_some_iff s _).mp hpoll).1⟩
  | _ => simp_all

theorem DispStep.dir_falls (h : DispStep s d) (hbefore : s.disp.dir = true) (hafter : d.dir = false) :
    s.disp.fsm = .sending ∧ s.csRise = true := by
  cases h with
  | readEnds hfsm hrise => exact ⟨hfsm, hrise⟩
  | _ => simp_all

theorem DispStep.oe_rises (h : DispStep s d) (hbefore : s.disp.oe = false) (hafter : d.oe = true) :
    s.disp.fsm = .receiving ∧ s.csRise = true := by
  cases h with
  | writeEnds hfsm hrise => exact ⟨hfsm, hrise⟩
  | _ => simp_all

theorem DispStep.oe_falls (h : DispStep s d) (hbefore : s.disp.oe = true) (hafter : d.oe = false) :
    s.disp.fsm = .waitStmData := by
  cases h with
  | dropsOe hfsm => exact hfsm
  | writeBegins hfsm => exact hfsm
  | _ => simp_all

theorem DispStep.rxValid_rises (h : DispStep s d) (hbefore : s.disp.rxValid = false) (hafter : d.rxValid = true) :
    s.disp.fsm = .receiving ∧ s.csRise = true := by
  cases h with
  | writeEnds hfsm hrise => exact ⟨hfsm, hrise⟩
  | _ => simp_all

theorem DispStep.rxValid_falls (h : DispStep s d) (hbefore : s.disp.rxValid = true) (hafter : d.rxValid = false) :
    s.disp.fsm = .receiveHandshake ∧ s.readyEff = true := by
  cases h with
  | accepted hfsm hready => exact ⟨hfsm, hready⟩
  | _ => simp_all

/-- Settles O46: for each change of a bit, the moves that write the bit so. -/
theorem statusBitsChangeOnlyWhereStated : Obligations.StatusBitsChangeOnlyWhereStated := by
  intro s t hstep
  have hmove : DispStep s t.disp := step_dispStep hstep
  exact ⟨hmove.dir_rises, hmove.dir_falls, hmove.oe_rises, hmove.oe_falls, hmove.rxValid_rises, hmove.rxValid_falls⟩

/-! ## The strobes -/

/-- Settles O50: a strobe names the latched id; `rx_valid` is set in RECEIVE_HANDSHAKE alone and an ack is shown in
PERIPH_EVENT alone, which lasts one tick. -/
theorem strobesAreExclusive : Obligations.StrobesAreExclusive := by
  intro s i j
  refine ⟨fun hi hj => ?oneValid, fun hi hj => ?oneAck, fun hs hi => ?notBoth, fun t hstep hi => ?oneTick⟩
  case oneValid =>
    obtain ⟨-, -, hdesti⟩ := (valid_iff s i).mp hi
    obtain ⟨-, -, hdestj⟩ := (valid_iff s j).mp hj
    exact hdesti.symm.trans hdestj
  case oneAck =>
    obtain ⟨-, -, hevti⟩ := (ack_iff s i).mp hi
    obtain ⟨-, -, hevtj⟩ := (ack_iff s j).mp hj
    exact hevti.symm.trans hevtj
  case notBoth =>
    obtain ⟨-, hvalid, -⟩ := (valid_iff s i).mp hi
    have hfsm : s.disp.fsm = .receiveHandshake := beq_iff_eq.mp (hs.rxValid.symm.trans hvalid)
    exact ack_eq_false_of_fsm (by simp [hfsm]) j
  case oneTick =>
    obtain ⟨-, hfsm, -⟩ := (ack_iff s i).mp hi
    have hnext := step_disp_of_exec hfsm (exec_periphEvent s) hstep
    exact ack_eq_false_of_fsm (by simp [hnext]) j

end Machine
end Sys2Proof
end

section
/-! What a run of ticks keeps (43_dispatcher.md R154, R161, 44_peripheral_interface.md section 2, 60_exceptions.md
section 2): for each statement a predicate that every tick of the run hands on. -/

namespace Sys2Proof
namespace Machine

variable {s t : State} {d : Dispatcher}

/-! ## The handshake -/

/-- Settles O51: each tick of the stall writes nothing, so the next is one of RECEIVE_HANDSHAKE, too. -/
theorem unreadyPeripheralStallsTheEngine : Obligations.UnreadyPeripheralStallsTheEngine := by
  intro s vs t hfsm hp hunready
  refine path_induction (P := fun v => v.disp = s.disp) (fun v u hv hready hstep => ?_) hp rfl hunready
  have hhandshake : v.disp.fsm = .receiveHandshake := (congrArg Dispatcher.fsm hv).trans hfsm
  exact (step_disp_of_exec hhandshake (exec_receiveHandshake_of_notReady hready) hstep).trans hv

/-! ## The presented packet -/

/-- The registers that a peripheral is presented are the same (R191). -/
def samePresented (d e : Dispatcher) : Prop :=
  e.rxPkt = d.rxPkt ∧ e.rxBc = d.rxBc ∧ e.rxFlags = d.rxFlags ∧ e.destId = d.destId

/-- Only the end of a write latches a packet (R158). -/
theorem DispStep.samePresented_of_noWriteEnd (h : DispStep s d)
    (hno : ¬ (s.disp.fsm = .receiving ∧ s.csRise = true)) : samePresented s.disp d := by
  cases h with
  | writeEnds hfsm hrise => exact absurd ⟨hfsm, hrise⟩ hno
  | _ => exact ⟨rfl, rfl, rfl, rfl⟩

/-- Settles O52: no move of the run is the one that latches a packet. -/
theorem presentedPacketIsStable : Obligations.PresentedPacketIsStable := by
  intro s vs t hp hno
  refine path_induction (P := fun v => samePresented s.disp v.disp) (fun v u hv hnoEnd hstep => ?_) hp
    ⟨rfl, rfl, rfl, rfl⟩ hno
  obtain ⟨hpkt, hbc, hflags, hdest⟩ := hv
  obtain ⟨hpkt', hbc', hflags', hdest'⟩ := (step_dispStep hstep).samePresented_of_noWriteEnd hnoEnd
  exact ⟨hpkt'.trans hpkt, hbc'.trans hbc, hflags'.trans hflags, hdest'.trans hdest⟩

/-! ## The granted event -/

/-- The engine is in the outbound half, with the granted id and the status bits of `d` (R173). -/
def inEventOf (d e : Dispatcher) : Prop :=
  e.fsm.outbound = true ∧ e.evtId = d.evtId ∧ e.dir = d.dir ∧ e.rxValid = d.rxValid ∧ e.oe = d.oe

/-- The outbound half is left at the event's end alone, and no move inside it writes those registers (R173, R228). -/
theorem DispStep.inEventOf_of_noEventEnd (h : DispStep s d) (hout : s.disp.fsm.outbound = true)
    (hno : ¬ (s.disp.fsm = .sending ∧ s.csRise = true)) : inEventOf s.disp d := by
  cases h with
  | readEnds hfsm hrise => exact absurd ⟨hfsm, hrise⟩ hno
  | dummyReadBegins => exact ⟨rfl, rfl, rfl, rfl, rfl⟩
  | dummyReadEnds => exact ⟨rfl, rfl, rfl, rfl, rfl⟩
  | copiesPacket => exact ⟨rfl, rfl, rfl, rfl, rfl⟩
  | readBegins => exact ⟨rfl, rfl, rfl, rfl, rfl⟩
  | waits => exact ⟨hout, rfl, rfl, rfl, rfl⟩
  | _ => simp_all [Fsm.outbound]

/-- Settles O53: no move of the run is the one that ends the event. -/
theorem grantedEventRunsToItsEnd : Obligations.GrantedEventRunsToItsEnd := by
  intro s vs t hout hp hno
  refine path_induction (P := fun v => inEventOf s.disp v.disp) (fun v u hv hnoEnd hstep => ?_) hp
    ⟨hout, rfl, rfl, rfl, rfl⟩ hno
  obtain ⟨hvout, hevt, hdir, hvalid, hoe⟩ := hv
  obtain ⟨huout, hevt', hdir', hvalid', hoe'⟩ := (step_dispStep hstep).inEventOf_of_noEventEnd hvout hnoEnd
  exact ⟨huout, hevt'.trans hevt, hdir'.trans hdir, hvalid'.trans hvalid, hoe'.trans hoe⟩

/-! ## The rest state -/

/-- The Dispatcher holds `d`, the codecs are clear, and chip-select is high in both synchronizer stages. -/
def State.restsWith (s : State) (d : Dispatcher) : Prop :=
  s.disp = d ∧ s.rx = ⟨0, 0⟩ ∧ s.tx = ⟨0, 0⟩ ∧ s.csS = true ∧ s.cond.csFf0 = true

/-- In IDLE a high chip-select without a request changes nothing but the clock's registers (R154). -/
theorem step_keeps_restsWith (hidle : d.fsm = .idle) (hs : s.restsWith d) (hraw : s.input.csRaw = true)
    (hnone : ∀ i, s.requests i = false) (hstep : step s = .next t) : t.restsWith d := by
  obtain ⟨hdisp, -, -, hcs, hff0⟩ := hs
  have hquiet : s.csFall = false := by simp [State.csFall, hcs]
  have hfsm : s.disp.fsm = .idle := (congrArg Dispatcher.fsm hdisp).trans hidle
  have hhold : t.disp = s.disp :=
    step_disp_of_exec hfsm (exec_idle_of_noRequest hquiet ((poll_eq_none_iff s).mpr hnone)) hstep
  exact ⟨hhold.trans hdisp, step_rx_of_csHigh hstep hcs, step_tx_of_csHigh hstep hcs, (step_csS hstep).trans hff0,
    (step_csFf0 hstep).trans hraw⟩

/-- Settles O54: every tick of the run rests with the same registers. -/
theorem idleEngineStaysAtRest : Obligations.IdleEngineStaysAtRest := by
  rintro s vs t ⟨hidle, hcs, -, -, -, -, -, hrx, htx⟩ hff0 hp hquiet
  obtain ⟨hdisp, hrx', htx', hcs', -⟩ : t.restsWith s.disp :=
    path_induction (P := fun v => v.restsWith s.disp)
      (fun _ _ hv ⟨hraw, hnone⟩ hstep => step_keeps_restsWith hidle hv hraw hnone hstep) hp ⟨rfl, hrx, htx, hcs, hff0⟩
      hquiet
  exact ⟨hdisp, hrx', htx', hcs'⟩

/-! ## `rx_ready` -/

/-- The symbols sampled are as many as the qualifying edges (R117). -/
theorem length_sampled (vs : List State) : (sampled vs).length = edges State.rxEdge vs := by
  rw [sampled, edges, List.length_map, List.countP_eq_length_filter]

/-- Settles O28: the count of a transaction is the number of its symbols modulo 64, which is 32 at 32 and then not again
before 96. -/
theorem rxReadyOnlyAtAFullPacket : Obligations.RxReadyOnlyAtAFullPacket := by
  intro u s vs t hu hstep hp hlow hbound
  have hrx : t.rx = (sampled vs).foldl RxCodec.push ⟨0, 0⟩ := step_rx_of_csHigh hstep hu ▸ path_rx_of_selected hp hlow
  have hcnt : t.rx.cnt.toNat = edges State.rxEdge vs % 64 := by
    rw [hrx, foldl_push_cnt, length_sampled]
    exact congrArg (· % 64) (Nat.zero_add _)
  rw [rxReady_iff, hcnt]
  omega

end Machine
end Sys2Proof
end

section
/-! Chip-select edges at the Dispatcher (45_host_protocol.md section 1, 70_reset_and_hazards.md section 2): what the
host reads and the state the engine moves to in a `cs_fall` tick, the bus turnaround, and the gap that is too short. -/

namespace Sys2Proof
namespace Machine

variable {s t : State}

/-- A state that waits keeps every Dispatcher register (R168). -/
theorem step_disp_of_dispWaits (h : step s = .next t) (hwaits : s.dispWaits = true) : t.disp = s.disp :=
  (step_dispStep h).unique (.waits hwaits)

/-- A fall is no rise (R114). -/
theorem csRise_of_csFall (hfall : s.csFall = true) : s.csRise = false := by
  simp [State.csRise, csS_of_csFall hfall]

/-! ## The kinds of transaction -/

theorem fsm_of_writeProbe {f : Fsm} (h : transactionKind f = .writeProbe) : f = .idle := by
  cases f <;> cases h
  rfl

theorem fsm_of_realWrite {f : Fsm} (h : transactionKind f = .realWrite) : f = .waitStmData := by
  cases f <;> cases h
  rfl

theorem showsNotReady_of_followUpProbe {f : Fsm} (h : transactionKind f = .followUpProbe) : f.showsNotReady = true := by
  cases f <;> cases h <;> rfl

theorem fsm_of_dummyRead {f : Fsm} (h : transactionKind f = .dummyRead) : f = .sendEvent := by
  cases f <;> cases h
  rfl

theorem fsm_of_realRead {f : Fsm} (h : transactionKind f = .realRead) : f = .sendData := by
  cases f <;> cases h
  rfl

/-- A fall in a state that awaits a rise, or in one of the two that last one tick, begins nothing (R170, R205). -/
theorem dispWaits_of_ignored (hkind : transactionKind s.disp.fsm = .ignored) (hfall : s.csFall = true)
    (hstart : s.disp.fsm ≠ .start) (hperiph : s.disp.fsm ≠ .periphEvent) : s.dispWaits = true := by
  have hrise := csRise_of_csFall hfall
  cases hfsm : s.disp.fsm <;> simp_all [transactionKind, State.dispWaits]

/-- Settles O55: the Tx Codec loads the packet whose top byte is the header; the status invariant says which header the
state shows, the state's action where the engine goes. -/
theorem headerReadAgreesWithTheBranch : Obligations.HeaderReadAgreesWithTheBranch := by
  intro u s hs hfall hstep
  have hload : s.tx.sh = u.disp.txPkt := congrArg TxCodec.sh (step_tx_of_csFall hstep hfall)
  have hhdr : topByte s.tx.sh = u.hdr := congrArg topByte hload
  refine ⟨hhdr, fun hkind => ?writeProbe, fun hkind => ?realWrite, fun hkind => ?followUpProbe,
    fun hkind => ?dummyRead, fun hkind => ?realRead, fun hkind hstart hperiph => ?ignored⟩
  case writeProbe =>
    have hfsm := fsm_of_writeProbe hkind
    have hok : u.hdr = 0xF0 := hs.hdrOkToSend (by rw [hfsm]; rfl)
    rw [hhdr, hok]
    exact ⟨congrArg Dispatcher.fsm (step_disp_of_exec hfsm (exec_idle_of_csFall hfall) hstep), rfl⟩
  case realWrite =>
    have hdisp := step_disp_of_exec (fsm_of_realWrite hkind) (exec_waitStmData u) hstep
    exact ⟨(congrArg Dispatcher.fsm hdisp).trans (if_pos hfall), congrArg Dispatcher.oe hdisp⟩
  case followUpProbe =>
    have hbusy : u.hdr = 0xFF := hs.hdrNotReady (showsNotReady_of_followUpProbe hkind)
    rw [hhdr, hbusy]
    rfl
  case dummyRead =>
    have hfsm := fsm_of_dummyRead hkind
    have hdisp := step_disp_of_exec hfsm (exec_sendEvent u) hstep
    rw [hhdr]
    exact ⟨(congrArg Dispatcher.fsm hdisp).trans (if_pos hfall), hs.hdrEvent (by rw [hfsm]; rfl)⟩
  case realRead =>
    have hdisp := step_disp_of_exec (fsm_of_realRead hkind) (exec_sendData u) hstep
    exact ⟨(congrArg Dispatcher.fsm hdisp).trans (if_pos hfall), hload⟩
  case ignored =>
    exact congrArg Dispatcher.fsm (step_disp_of_dispWaits hstep (dispWaits_of_ignored hkind hfall hstart hperiph))

/-! ## Turnaround and gap -/

/-- Settles O57: OK_TO_SEND leaves `oe` at the 1 the status invariant gives it, the first tick of WAIT_STM_DATA drops
it. -/
theorem busTurnaroundTakesOneTick : Obligations.BusTurnaroundTakesOneTick := by
  rintro s v t hs hfsm hrise ⟨-, w, hstep, rfl, w', hstep', rfl⟩
  have hdisp := step_disp_of_exec hfsm (exec_okToSend s) hstep
  have hwait : w.disp.fsm = .waitStmData := (congrArg Dispatcher.fsm hdisp).trans (if_pos hrise)
  have hdrives : w.dqOe = true :=
    (congrArg Dispatcher.oe hdisp).trans (hs.oeElsewhere (by simp [hfsm]) (by simp [hfsm]))
  have hfree : w'.dqOe = false :=
    congrArg Dispatcher.oe (step_disp_of_exec hwait (exec_waitStmData w) hstep')
  exact ⟨hwait, hdrives, congrArg (!·) hdrives, hfree, congrArg (!·) hfree⟩

/-- Settles O58: the load of the `cs_fall` tick and the copy of PERIPH_EVENT are of one tick, so the load is of the old
packet. -/
theorem tooShortGapSendsStaleBytes : Obligations.TooShortGapSendsStaleBytes := by
  rintro s v t hfsm hrise ⟨-, w, hstep, rfl, w', hstep', rfl⟩ hfall
  have hdisp := step_disp_of_exec hfsm (exec_sendingEvent s) hstep
  have hperiph : w.disp.fsm = .periphEvent := (congrArg Dispatcher.fsm hdisp).trans (if_pos hrise)
  have hpkt : w.disp.txPkt = s.disp.txPkt := by rw [hdisp]
  have hevt : w.disp.evtId = s.disp.evtId := by rw [hdisp]
  have hnext := step_disp_of_exec hperiph (exec_periphEvent w) hstep'
  have hload : w'.tx.sh = w.disp.txPkt := congrArg TxCodec.sh (step_tx_of_csFall hstep' hfall)
  exact ⟨hperiph, congrArg Dispatcher.fsm hnext, hload.trans hpkt, hevt ▸ congrArg Dispatcher.txPkt hnext⟩

end Machine
end Sys2Proof
end

section
/-! The registry (44_peripheral_interface.md R190): what one `register` call does to the slots, and a sequence of calls
by induction. -/

namespace Sys2Proof

/-- A call is refused exactly for an id that is not below NUM_PERIPHS (R190). -/
theorem register_eq_none_iff (t : SlotTable) (id : Nat) (s : Slot) :
    t.register id s = none ↔ t.numPeriphs.val ≤ id := by
  unfold SlotTable.register
  split_ifs with hid
  · exact ⟨nofun, fun hle => absurd hid (Nat.not_lt.mpr hle)⟩
  · exact ⟨fun _ => Nat.not_lt.mp hid, fun _ => rfl⟩

/-- An accepted call replaces the slot of its id and no other. -/
theorem register_spec {t t' : SlotTable} {id : Nat} {s : Slot} (h : t.register id s = some t') :
    t'.numPeriphs = t.numPeriphs ∧ ∀ j, t'.slot j = if id = j then some s else t.slot j := by
  unfold SlotTable.register at h
  split_ifs at h with hid
  cases h
  refine ⟨rfl, fun j => ?_⟩
  have hlt : id < 15 := by have := t.numPeriphs.isLt; omega
  by_cases heq : id = j
  · subst heq
    simp [SlotTable.slot, hid, hlt]
  · simp [SlotTable.slot, heq]

/-- The slot of the last call for an id, if there is one. -/
def lastCall (calls : List (Nat × Slot)) (id : Nat) : Option Slot :=
  (calls.reverse.find? fun c => c.1 == id).map Prod.snd

/-- A later call goes before the first one. -/
theorem lastCall_cons (i : Nat) (s : Slot) (calls : List (Nat × Slot)) (id : Nat) :
    lastCall ((i, s) :: calls) id = (lastCall calls id).or (if i = id then some s else none) := by
  unfold lastCall
  rw [List.reverse_cons, List.find?_append, Option.map_or]
  by_cases hid : i = id <;> simp [hid]

/-- An accepted sequence leaves each id the slot of its last call, or the one it had. -/
theorem registerAll_spec {t t' : SlotTable} {calls : List (Nat × Slot)} (h : t.registerAll calls = some t') :
    t'.numPeriphs = t.numPeriphs ∧ ∀ id, t'.slot id = (lastCall calls id).or (t.slot id) := by
  induction calls generalizing t with
  | nil =>
    cases h
    exact ⟨rfl, fun _ => rfl⟩
  | cons c calls ih =>
    obtain ⟨i, s⟩ := c
    unfold SlotTable.registerAll at h
    split at h
    · next t1 hregister =>
      obtain ⟨hnum, hslot⟩ := register_spec hregister
      obtain ⟨hnum', hslot'⟩ := ih h
      refine ⟨hnum'.trans hnum, fun id => ?_⟩
      rw [hslot', hslot, lastCall_cons, Option.or_assoc]
      split_ifs <;> rfl
    · cases h

/-- A sequence is refused at its first call of an id that is not below NUM_PERIPHS, which no call changes. -/
theorem registerAll_eq_none_iff (t : SlotTable) (calls : List (Nat × Slot)) :
    t.registerAll calls = none ↔ ∃ c ∈ calls, t.numPeriphs.val ≤ c.1 := by
  induction calls generalizing t with
  | nil => exact ⟨nofun, fun ⟨_, hc, _⟩ => nomatch hc⟩
  | cons c calls ih =>
    obtain ⟨i, s⟩ := c
    rw [List.exists_mem_cons_iff]
    unfold SlotTable.registerAll
    split
    · next t1 hregister =>
      obtain ⟨hnum, -⟩ := register_spec hregister
      have hlt : ¬ t.numPeriphs.val ≤ i := fun hle =>
        nomatch ((register_eq_none_iff t i s).mpr hle).symm.trans hregister
      rw [ih, hnum]
      exact (or_iff_right hlt).symm
    · next hregister => exact ⟨fun _ => .inl ((register_eq_none_iff t i s).mp hregister), fun _ => rfl⟩

/-- Settles O59: both directions by induction on the calls. -/
theorem lastRegistrationWins : Obligations.LastRegistrationWins := fun t calls =>
  ⟨fun _ => registerAll_spec, registerAll_eq_none_iff t calls⟩

end Sys2Proof
end

section
/-! What a host reads with the control lines of `RD(n)` (42_tx_codec.md R141, R142, 45_host_protocol.md R212, R213,
R218): the conditioner of a run computed from its raw samples, the tick of `cs_fall`, and then one clock pulse after another,
each of which leaves the conditioner as it found it and moves the shift register up a symbol. -/

namespace Sys2Proof
namespace Machine

variable {s t : State} {vs : List State}

/-! ## The conditioner along a run -/

/-- The raw control samples of a tick: chip-select and clock (R45). -/
def State.lines (s : State) : Bool × Bool := (s.input.csRaw, s.input.clkRaw)

/-- COND with the given raw samples (R111, R112). -/
def Conditioner.next (c : Conditioner) (lines : Bool × Bool) : Conditioner := c.sample lines.1 lines.2

/-- The conditioner's registers before each of the ticks with the given raw samples. -/
def Conditioner.during (c : Conditioner) : List (Bool × Bool) → List Conditioner
  | [] => []
  | l :: ls => c :: (c.next l).during ls

/-- A run's raw samples determine the conditioner in all of its ticks and after it. -/
theorem path_cond (hp : Path s vs t) :
    vs.map State.cond = s.cond.during (vs.map State.lines) ∧
    t.cond = (vs.map State.lines).foldl Conditioner.next s.cond := by
  induction vs generalizing s with
  | nil =>
    obtain rfl := hp
    exact ⟨rfl, rfl⟩
  | cons v vs ih =>
    obtain ⟨rfl, u, hu, hrest⟩ := (path_cons _ _ _ _).mp hp
    have hnext : u.cond = s.cond.next s.lines := step_cond hu
    obtain ⟨hduring, hend⟩ := ih hrest
    rw [hnext] at hduring hend
    exact ⟨congrArg (s.cond :: ·) hduring, hend⟩

/-! ## The lines of a read -/

/-- The conditioner inside a transaction, some ticks after the last clock edge. -/
def lowLines : Conditioner := ⟨false, false, false, false, false, false⟩

/-- The raw samples before the first clock pulse of `RD(n)` (R212). -/
def leadLines : List (Bool × Bool) := List.replicate 4 (false, false)

/-- The raw samples of one clock pulse of `RD(n)`: high phase and low phase (R212). -/
def pulseLines : List (Bool × Bool) := List.replicate 4 (false, true) ++ List.replicate 4 (false, false)

/-- `RD(n)` is the lead and `n` pulses. -/
theorem lines_rd (n : Nat) :
    (rd n).map (fun x => (x.csRaw, x.clkRaw)) = leadLines ++ (List.replicate n pulseLines).flatten := by
  simp [rd, ticks, TickIn.host, leadLines, pulseLines, List.map_flatten]

/-! ## The shift register -/

/-- Between the lead's second and third sample chip-select is seen to fall; the packet of that tick is loaded and is
still in place when the first pulse begins. -/
theorem path_lead (hp : Path s vs t) (hcond : s.cond = ⟨true, true, true, false, false, false⟩)
    (hlines : vs.map State.lines = leadLines) :
    ∃ u, vs[2]? = some u ∧ u.csFall = true ∧ t.tx.sh = u.disp.txPkt ∧ t.cond = lowLines := by
  obtain ⟨hduring, hend⟩ := path_cond hp
  rw [hcond, hlines] at hduring hend
  obtain ⟨a, b, u, v, rfl⟩ : ∃ a b u v, vs = [a, b, u, v] :=
    List.length_eq_four.mp ((List.length_map State.lines).symm.trans (congrArg List.length hlines))
  obtain ⟨m, -, hp2⟩ := (path_append s t [a, b] [u, v]).mp hp
  obtain ⟨rfl, w, hload, rfl, w', hhold, rfl⟩ := hp2
  have hu : m.cond = ⟨false, false, true, false, false, false⟩ := Option.some.inj (congrArg (·[2]?) hduring)
  have hv : w.cond = lowLines := Option.some.inj (congrArg (·[3]?) hduring)
  have hfall : m.csFall = true := (csFall_iff m).mpr ⟨congrArg Conditioner.csPrev hu, congrArg Conditioner.csFf1 hu⟩
  have hquiet : w.clkFall = false := congrArg (fun c : Conditioner => c.clkPrev && !c.clkFf1) hv
  have htx : w'.tx = w.tx := (step_tx_of_staysLow hhold (congrArg Conditioner.csFf1 hv)
    (congrArg Conditioner.csPrev hv)).trans (if_neg (ne_true_of_eq_false hquiet))
  refine ⟨m, rfl, hfall, ?_, hend⟩
  rw [htx, step_tx_of_csFall hload hfall]

/-- One pulse has one falling clock edge, inside the transaction. -/
theorem path_pulse (hp : Path s vs t) (hcond : s.cond = lowLines) (hlines : vs.map State.lines = pulseLines) :
    t.tx.sh = s.tx.sh <<< 4 ∧ t.cond = lowLines := by
  obtain ⟨hduring, hend⟩ := path_cond hp
  rw [hcond, hlines] at hduring hend
  have hprev : s.cond.csPrev = false := congrArg Conditioner.csPrev hcond
  have hlow : ∀ v ∈ vs, v.csS = false := by
    have hall : ∀ c ∈ lowLines.during pulseLines, c.csFf1 = false := by decide
    exact fun v hv => hall v.cond (hduring ▸ List.mem_map_of_mem hv)
  have hedges : edges State.clkFall vs = 1 := by
    have hcount : (lowLines.during pulseLines).countP (fun c => c.clkPrev && !c.clkFf1) = 1 := by decide
    rw [← hduring, List.countP_map] at hcount
    exact hcount
  refine ⟨?_, hend⟩
  rw [path_sh_of_staysLow hp hprev hlow, hedges]

/-- A run starts in its first tick. -/
theorem path_head {v : State} (hp : Path s vs t) (hv : vs[0]? = some v) : v = s := by
  cases vs with
  | nil => cases hv
  | cons w vs =>
    obtain ⟨rfl, -⟩ := (path_cons _ _ _ _).mp hp
    exact (Option.some.inj hv).symm

/-- At the begin of pulse `k` the shift register has moved up `k` symbols. -/
theorem path_pulses {n : Nat} (hp : Path s vs t) (hcond : s.cond = lowLines)
    (hlines : vs.map State.lines = (List.replicate n pulseLines).flatten) :
    ∀ k v, k < n → vs[8 * k]? = some v → v.tx.sh = s.tx.sh <<< (4 * k) := by
  induction n generalizing s vs with
  | zero => exact fun k _ hk => absurd hk (Nat.not_lt_zero k)
  | succ n ih =>
    rw [List.replicate_succ, List.flatten_cons] at hlines
    obtain ⟨ws, rest, rfl, hws, hrest⟩ := List.map_eq_append_iff.mp hlines
    obtain ⟨u, hpulse, hpath⟩ := (path_append s t ws rest).mp hp
    obtain ⟨hsh, hucond⟩ := path_pulse hpulse hcond hws
    have hlen : ws.length = 8 := (List.length_map State.lines).symm.trans (congrArg List.length hws)
    intro k v hk hv
    cases k with
    | zero =>
      obtain rfl := path_head hp hv
      exact (BitVec.shiftLeft_zero _).symm
    | succ k =>
      have hget : rest[8 * k]? = some v := by
        rw [← hv, List.getElem?_append_right (by omega), hlen]
        exact congrArg (rest[·]?) (by omega)
      rw [ih hpath hucond hrest k v (by omega) hget, hsh, ← BitVec.shiftLeft_add]
      exact congrArg (s.tx.sh <<< ·) (by omega)

/-! ## What the host assembles -/

/-- A sample is the top symbol of the shift register while the engine drives the bus (R47, R48). -/
theorem hostSample_of_sh_eq {v : State} {p : Packet} {k : Nat} (h : v.tx.sh = p <<< (4 * k)) :
    v.hostSample = if v.dqOe then some (symbolFromTop p k) else none := by
  rw [State.hostSample, dqOut_of_sh_eq h]
  rfl

/-- Two samples make a byte (R218). -/
theorem readByte_of_readSample {p : Packet} {k : Nat} (hhigh : readSample vs (2 * k) = some (symbolFromTop p (2 * k)))
    (hlow : readSample vs (2 * k + 1) = some (symbolFromTop p (2 * k + 1))) :
    readByte vs k = some (byteFromTop p k) := by
  rw [readByte, hhigh, hlow, byteFromTop_eq_symbols]
  rfl

/-- Settles O60: the lead loads the packet of its `cs_fall` tick, each pulse moves it up a symbol, and sample `k` is
taken as pulse `k` begins. -/
theorem readsReturnTheSnapshotFromTheTop : Obligations.ReadsReturnTheSnapshotFromTheTop := by
  intro s n vs t u hcond hp hlines hu
  rw [lines_rd] at hlines
  obtain ⟨ws, rest, rfl, hlead, hpulses⟩ := List.map_eq_append_iff.mp hlines
  obtain ⟨m, hp1, hp2⟩ := (path_append s t ws rest).mp hp
  obtain ⟨w, hw, hfall, hsh, hmcond⟩ := path_lead hp1 hcond hlead
  have hlen : ws.length = 4 := (List.length_map State.lines).symm.trans (congrArg List.length hlead)
  have hrest : rest.length = n * 8 := by simpa [pulseLines] using congrArg List.length hpulses
  obtain rfl : w = u := Option.some.inj (hw.symm.trans ((List.getElem?_append_left (by omega)).symm.trans hu))
  have hsample : ∀ k v, k < n → (ws ++ rest)[4 + 8 * k]? = some v →
      readSample (ws ++ rest) k = if v.dqOe then some (symbolFromTop w.disp.txPkt k) else none := by
    intro k v hk hv
    have hget : rest[8 * k]? = some v := by
      rw [← hv, List.getElem?_append_right (by omega), hlen, Nat.add_sub_cancel_left]
    rw [readSample, hv]
    exact hostSample_of_sh_eq (hsh ▸ path_pulses hp2 hmcond hpulses k v hk hget)
  refine ⟨hfall, hsample, fun hdrives => ?_⟩
  have hsymbol : ∀ k, k < n → readSample (ws ++ rest) k = some (symbolFromTop w.disp.txPkt k) := by
    intro k hk
    have hlt : 4 + 8 * k < (ws ++ rest).length := by rw [List.length_append]; omega
    rw [hsample k _ hk (List.getElem?_eq_getElem hlt), if_pos (hdrives _ (List.getElem_mem hlt))]
  have hbyte : ∀ k, 2 * k + 1 < n → readByte (ws ++ rest) k = some (byteFromTop w.disp.txPkt k) := fun k hk =>
    readByte_of_readSample (hsymbol (2 * k) (by omega)) (hsymbol (2 * k + 1) hk)
  refine ⟨hbyte, fun hn => (hbyte 0 hn).trans ?_⟩
  exact congrArg (fun p : Packet => some (topByte p)) (BitVec.shiftLeft_zero _)

end Machine
end Sys2Proof
end
